-- ==== Sys2Proof/Word.lean ====
section
/-! DEFINITION. The widths of the NetIP packet engine: bytes, half words, 32-bit words, buffer handles, and the
four-word form in which an address stands in the host registers (10_state.md R21, R25, R30). -/

namespace Sys2Proof

/-- One byte of a packet, of an operand field or of a register (R30, R90). -/
abbrev Byte := BitVec 8

/-- A 16-bit quantity: a length, an offset, a port, a checksum (R30, R50, R90). -/
abbrev Half := BitVec 16

/-- A 32-bit host register or command word (R21, R90). -/
abbrev Word := BitVec 32

/-- A buffer handle, 8 bits wide (R30). -/
abbrev Handle := BitVec 8

/-- The handle value 0xFF, no buffer (R14). -/
abbrev NONE : Handle := 0xFF#8

/-- An address in the packing of R25: address byte `4i + j` is bits `[31-8j : 24-8j]` of word `i`.  An IPv4 build
uses word 0 only. -/
structure AddrWords where
  w0 : Word
  w1 : Word
  w2 : Word
  w3 : Word
  deriving DecidableEq, Repr

end Sys2Proof
end

