-- ==== Sys2Proof/Syntax.lean ====
section
/-! DEFINITION. The commands of the block: one constructor for each of the 52 rows of the opcode table (30_encoding.md R95),
with the operand fields of its format (R92) at the widths at which the command reads them (R93, R94). -/

namespace Sys2Proof

/-- One command.  `b` is a buffer handle, `c` a chain id or a channel number, `k` a connection slot, `o` a byte offset (R92). -/
inductive Instr where
  -- 60_exceptions.md
  | nop
  -- 40_pool.md: pool and chains
  | getSpare
  | addSpare (b : Handle)
  | queue (b : Handle)
  | ref (b : Handle)
  | unref (b : Handle)
  | retained (b : Handle)
  | bufInfo (b : Handle)
  | chainPush (c : Byte) (b : Handle) (urgent : Bool)
  | chainPop (c : Byte)
  | chainPeek (c : Byte)
  | chainRemove (c : Byte) (b : Handle)
  | chainCount (c : Byte)
  | chainNext (b : Handle)
  -- 40_pool.md: buffer data
  | bufRd8 (b : Handle) (o : Half)
  | bufRd16 (b : Handle) (o : Half)
  | bufRd32 (b : Handle) (o : Half)
  | bufWr8 (b : Handle) (o : Half)
  | bufWr16 (b : Handle) (o : Half)
  | bufWr32 (b : Handle) (o : Half)
  | bufSetlen (b : Handle) (v : Half)
  | bufSetchan (b : Handle) (v : BitVec 4)
  -- 41_checksum.md
  | csClear
  | csAdd16
  | csAdd32
  | csAddbuf (b : Handle) (o : Half)
  | csAddaddr (sel : Byte)
  | csFinal
  -- 42_header.md
  | sniff (b : Handle)
  | pingToPong (b : Handle)
  | buildEcho (b : Handle) (seq : Half)
  -- 43_slip.md
  | slipRx (c : Byte) (x : Byte)
  | slipTx (c : Byte)
  | slipState (c : Byte)
  -- 44_connection.md
  | connInit (k : Byte) (port : Half)
  | connReg (k : Byte) (r : Bool)
  | connReset (k : Byte)
  | connSetremote (k : Byte) (port : Half)
  | connOpen (k : Byte)
  | connConnect (k : Byte) (port : Half)
  | connClose (k : Byte)
  | connUpdate (k : Byte)
  | connTimeout (k : Byte)
  | connAccept (b : Handle)
  | connRead (k : Byte) (n : BitVec 3)
  | connWrite (k : Byte) (n : BitVec 3)
  | connStatus (k : Byte)
  | connEvents (k : Byte)
  | connListener (k : Byte) (v : Bool)
  | connTcpinfo (k : Byte)
  | connGetremote (k : Byte)
  -- 70_reset_and_hazards.md
  | softReset
  deriving DecidableEq, Repr

end Sys2Proof
end

