-- ==== Sys2Proof/Decode.lean ====
section
/-! DEFINITION. The decoder and, after it, the encoder of the 32-bit command word (30_encoding.md R90 to R97).  The decoder is
total: a word whose opcode field is assigned by R95 is a command, every other word is rejected by its opcode (R96). -/

namespace Sys2Proof

/-- Why a word is no command. -/
inductive DecodeReject where
  /-- The opcode field is not assigned (R96); the block answers E_ILLEGAL (R321). -/
  | illegalOpcode (op : Byte)
  deriving DecidableEq, Repr

/-- What the decoder answers. -/
inductive Decoded where
  | instr (i : Instr)
  | reject (r : DecodeReject)
  deriving DecidableEq, Repr

/-- OP, bits [31:24] (R90). -/
def opField (w : Word) : Byte := w.extractLsb' 24 8

/-- A, bits [23:16] (R90). -/
def aField (w : Word) : Byte := w.extractLsb' 16 8

/-- B, bits [15:0] (R90). -/
def bField (w : Word) : Half := w.extractLsb' 0 16

/-- B[7:0]: the handle of formats CH and X and the byte of format P (R92, R93). -/
def bLow (w : Word) : Byte := w.extractLsb' 0 8

/-- The command a word encodes.  A field that the format ignores is not looked at (R94), and no field but OP decides whether
the word is a command (R97). -/
def decode (w : Word) : Decoded :=
  match opField w with
  | 0x00#8 => .instr .nop
  | 0x01#8 => .instr .getSpare
  | 0x02#8 => .instr (.addSpare (aField w))
  | 0x03#8 => .instr (.queue (aField w))
  | 0x04#8 => .instr (.ref (aField w))
  | 0x05#8 => .instr (.unref (aField w))
  | 0x06#8 => .instr (.retained (aField w))
  | 0x07#8 => .instr (.bufInfo (aField w))
  | 0x08#8 => .instr (.chainPush (aField w) (bLow w) (w.getLsbD 8))
  | 0x09#8 => .instr (.chainPop (aField w))
  | 0x0A#8 => .instr (.chainPeek (aField w))
  | 0x0B#8 => .instr (.chainRemove (aField w) (bLow w))
  | 0x0C#8 => .instr (.chainCount (aField w))
  | 0x0D#8 => .instr (.chainNext (aField w))
  | 0x10#8 => .instr (.bufRd8 (aField w) (bField w))
  | 0x11#8 => .instr (.bufRd16 (aField w) (bField w))
  | 0x12#8 => .instr (.bufRd32 (aField w) (bField w))
  | 0x13#8 => .instr (.bufWr8 (aField w) (bField w))
  | 0x14#8 => .instr (.bufWr16 (aField w) (bField w))
  | 0x15#8 => .instr (.bufWr32 (aField w) (bField w))
  | 0x16#8 => .instr (.bufSetlen (aField w) (bField w))
  | 0x17#8 => .instr (.bufSetchan (aField w) (w.extractLsb' 0 4))
  | 0x20#8 => .instr .csClear
  | 0x21#8 => .instr .csAdd16
  | 0x22#8 => .instr .csAdd32
  | 0x23#8 => .instr (.csAddbuf (aField w) (bField w))
  | 0x24#8 => .instr (.csAddaddr (aField w))
  | 0x25#8 => .instr .csFinal
  | 0x30#8 => .instr (.sniff (aField w))
  | 0x31#8 => .instr (.pingToPong (aField w))
  | 0x32#8 => .instr (.buildEcho (aField w) (bField w))
  | 0x40#8 => .instr (.slipRx (aField w) (bLow w))
  | 0x41#8 => .instr (.slipTx (aField w))
  | 0x42#8 => .instr (.slipState (aField w))
  | 0x50#8 => .instr (.connInit (aField w) (bField w))
  | 0x51#8 => .instr (.connReg (aField w) (w.getLsbD 0))
  | 0x52#8 => .instr (.connReset (aField w))
  | 0x53#8 => .instr (.connSetremote (aField w) (bField w))
  | 0x54#8 => .instr (.connOpen (aField w))
  | 0x55#8 => .instr (.connConnect (aField w) (bField w))
  | 0x56#8 => .instr (.connClose (aField w))
  | 0x57#8 => .instr (.connUpdate (aField w))
  | 0x58#8 => .instr (.connTimeout (aField w))
  | 0x59#8 => .instr (.connAccept (bLow w))
  | 0x5A#8 => .instr (.connRead (aField w) (w.extractLsb' 0 3))
  | 0x5B#8 => .instr (.connWrite (aField w) (w.extractLsb' 0 3))
  | 0x5C#8 => .instr (.connStatus (aField w))
  | 0x5D#8 => .instr (.connEvents (aField w))
  | 0x5E#8 => .instr (.connListener (aField w) (w.getLsbD 0))
  | 0x5F#8 => .instr (.connTcpinfo (aField w))
  | 0x60#8 => .instr (.connGetremote (aField w))
  | 0x7F#8 => .instr .softReset
  | op => .reject (.illegalOpcode op)

/-- The opcode of a command (R95). -/
def Instr.opcode : Instr → Byte
  | .nop => 0x00
  | .getSpare => 0x01
  | .addSpare _ => 0x02
  | .queue _ => 0x03
  | .ref _ => 0x04
  | .unref _ => 0x05
  | .retained _ => 0x06
  | .bufInfo _ => 0x07
  | .chainPush _ _ _ => 0x08
  | .chainPop _ => 0x09
  | .chainPeek _ => 0x0A
  | .chainRemove _ _ => 0x0B
  | .chainCount _ => 0x0C
  | .chainNext _ => 0x0D
  | .bufRd8 _ _ => 0x10
  | .bufRd16 _ _ => 0x11
  | .bufRd32 _ _ => 0x12
  | .bufWr8 _ _ => 0x13
  | .bufWr16 _ _ => 0x14
  | .bufWr32 _ _ => 0x15
  | .bufSetlen _ _ => 0x16
  | .bufSetchan _ _ => 0x17
  | .csClear => 0x20
  | .csAdd16 => 0x21
  | .csAdd32 => 0x22
  | .csAddbuf _ _ => 0x23
  | .csAddaddr _ => 0x24
  | .csFinal => 0x25
  | .sniff _ => 0x30
  | .pingToPong _ => 0x31
  | .buildEcho _ _ => 0x32
  | .slipRx _ _ => 0x40
  | .slipTx _ => 0x41
  | .slipState _ => 0x42
  | .connInit _ _ => 0x50
  | .connReg _ _ => 0x51
  | .connReset _ => 0x52
  | .connSetremote _ _ => 0x53
  | .connOpen _ => 0x54
  | .connConnect _ _ => 0x55
  | .connClose _ => 0x56
  | .connUpdate _ => 0x57
  | .connTimeout _ => 0x58
  | .connAccept _ => 0x59
  | .connRead _ _ => 0x5A
  | .connWrite _ _ => 0x5B
  | .connStatus _ => 0x5C
  | .connEvents _ => 0x5D
  | .connListener _ _ => 0x5E
  | .connTcpinfo _ => 0x5F
  | .connGetremote _ => 0x60
  | .softReset => 0x7F

/-- The A field a command is written with; 0 where its format ignores A (R92, R94). -/
def Instr.aOperand : Instr → Byte
  | .nop => 0
  | .getSpare => 0
  | .addSpare b => b
  | .queue b => b
  | .ref b => b
  | .unref b => b
  | .retained b => b
  | .bufInfo b => b
  | .chainPush c _ _ => c
  | .chainPop c => c
  | .chainPeek c => c
  | .chainRemove c _ => c
  | .chainCount c => c
  | .chainNext b => b
  | .bufRd8 b _ => b
  | .bufRd16 b _ => b
  | .bufRd32 b _ => b
  | .bufWr8 b _ => b
  | .bufWr16 b _ => b
  | .bufWr32 b _ => b
  | .bufSetlen b _ => b
  | .bufSetchan b _ => b
  | .csClear => 0
  | .csAdd16 => 0
  | .csAdd32 => 0
  | .csAddbuf b _ => b
  | .csAddaddr sel => sel
  | .csFinal => 0
  | .sniff b => b
  | .pingToPong b => b
  | .buildEcho b _ => b
  | .slipRx c _ => c
  | .slipTx c => c
  | .slipState c => c
  | .connInit k _ => k
  | .connReg k _ => k
  | .connReset k => k
  | .connSetremote k _ => k
  | .connOpen k => k
  | .connConnect k _ => k
  | .connClose k => k
  | .connUpdate k => k
  | .connTimeout k => k
  | .connAccept _ => 0
  | .connRead k _ => k
  | .connWrite k _ => k
  | .connStatus k => k
  | .connEvents k => k
  | .connListener k _ => k
  | .connTcpinfo k => k
  | .connGetremote k => k
  | .softReset => 0

/-- The B field a command is written with; 0 in every bit its format ignores (R92, R94). -/
def Instr.bOperand : Instr → Half
  | .nop => 0
  | .getSpare => 0
  | .addSpare _ => 0
  | .queue _ => 0
  | .ref _ => 0
  | .unref _ => 0
  | .retained _ => 0
  | .bufInfo _ => 0
  | .chainPush _ b urgent => 0#7 ++ BitVec.ofBool urgent ++ b
  | .chainPop _ => 0
  | .chainPeek _ => 0
  | .chainRemove _ b => 0#8 ++ b
  | .chainCount _ => 0
  | .chainNext _ => 0
  | .bufRd8 _ o => o
  | .bufRd16 _ o => o
  | .bufRd32 _ o => o
  | .bufWr8 _ o => o
  | .bufWr16 _ o => o
  | .bufWr32 _ o => o
  | .bufSetlen _ v => v
  | .bufSetchan _ v => 0#12 ++ v
  | .csClear => 0
  | .csAdd16 => 0
  | .csAdd32 => 0
  | .csAddbuf _ o => o
  | .csAddaddr _ => 0
  | .csFinal => 0
  | .sniff _ => 0
  | .pingToPong _ => 0
  | .buildEcho _ seq => seq
  | .slipRx _ x => 0#8 ++ x
  | .slipTx _ => 0
  | .slipState _ => 0
  | .connInit _ port => port
  | .connReg _ r => 0#15 ++ BitVec.ofBool r
  | .connReset _ => 0
  | .connSetremote _ port => port
  | .connOpen _ => 0
  | .connConnect _ port => port
  | .connClose _ => 0
  | .connUpdate _ => 0
  | .connTimeout _ => 0
  | .connAccept b => 0#8 ++ b
  | .connRead _ n => 0#13 ++ n
  | .connWrite _ n => 0#13 ++ n
  | .connStatus _ => 0
  | .connEvents _ => 0
  | .connListener _ v => 0#15 ++ BitVec.ofBool v
  | .connTcpinfo _ => 0
  | .connGetremote _ => 0
  | .softReset => 0

/-- The word of a command, `OP << 24 | A << 16 | B` (R90, R99), every ignored bit written as 0 (R94). -/
def encode (i : Instr) : Word := i.opcode ++ i.aOperand ++ i.bOperand

/-- The bits of the command word that the command's format reads (R92); the others are ignored (R94). -/
def Instr.usedBits : Instr → Word
  | .nop => 0xFF000000
  | .getSpare => 0xFF000000
  | .addSpare _ => 0xFFFF0000
  | .queue _ => 0xFFFF0000
  | .ref _ => 0xFFFF0000
  | .unref _ => 0xFFFF0000
  | .retained _ => 0xFFFF0000
  | .bufInfo _ => 0xFFFF0000
  | .chainPush _ _ _ => 0xFFFF01FF
  | .chainPop _ => 0xFFFF0000
  | .chainPeek _ => 0xFFFF0000
  | .chainRemove _ _ => 0xFFFF00FF
  | .chainCount _ => 0xFFFF0000
  | .chainNext _ => 0xFFFF0000
  | .bufRd8 _ _ => 0xFFFFFFFF
  | .bufRd16 _ _ => 0xFFFFFFFF
  | .bufRd32 _ _ => 0xFFFFFFFF
  | .bufWr8 _ _ => 0xFFFFFFFF
  | .bufWr16 _ _ => 0xFFFFFFFF
  | .bufWr32 _ _ => 0xFFFFFFFF
  | .bufSetlen _ _ => 0xFFFFFFFF
  | .bufSetchan _ _ => 0xFFFF000F
  | .csClear => 0xFF000000
  | .csAdd16 => 0xFF000000
  | .csAdd32 => 0xFF000000
  | .csAddbuf _ _ => 0xFFFFFFFF
  | .csAddaddr _ => 0xFFFF0000
  | .csFinal => 0xFF000000
  | .sniff _ => 0xFFFF0000
  | .pingToPong _ => 0xFFFF0000
  | .buildEcho _ _ => 0xFFFFFFFF
  | .slipRx _ _ => 0xFFFF00FF
  | .slipTx _ => 0xFFFF0000
  | .slipState _ => 0xFFFF0000
  | .connInit _ _ => 0xFFFFFFFF
  | .connReg _ _ => 0xFFFF0001
  | .connReset _ => 0xFFFF0000
  | .connSetremote _ _ => 0xFFFFFFFF
  | .connOpen _ => 0xFFFF0000
  | .connConnect _ _ => 0xFFFFFFFF
  | .connClose _ => 0xFFFF0000
  | .connUpdate _ => 0xFFFF0000
  | .connTimeout _ => 0xFFFF0000
  | .connAccept _ => 0xFF0000FF
  | .connRead _ _ => 0xFFFF0007
  | .connWrite _ _ => 0xFFFF0007
  | .connStatus _ => 0xFFFF0000
  | .connEvents _ => 0xFFFF0000
  | .connListener _ _ => 0xFFFF0001
  | .connTcpinfo _ => 0xFFFF0000
  | .connGetremote _ => 0xFFFF0000
  | .softReset => 0xFF000000

/-- The command the decoder reads from the word `w` of the opcode table, bit 0 the least significant; `none` where it rejects
the word.  A command is one 32-bit word (R97), so the number of bits the table gives a row changes nothing. -/
def decodeTableWord (_nbits w : Nat) : Option Instr :=
  match decode (BitVec.ofNat 32 w) with
  | .instr i => some i
  | .reject _ => none

end Sys2Proof
end

