-- ==== Sys2Proof/Config.lean ====
section
/-! DEFINITION. The parameters of a build (00_scope.md R6 to R13), their derived constants, the build whose machine is
`State.reset`, and the one free value of the model: what a data byte that nothing has written reads as. -/

namespace Sys2Proof

/-- `IPV` of R6: the IP version of the build. -/
inductive IPVersion where
  | v4
  | v6
  deriving DecidableEq, Repr

/-- The whole parameter set of a build (R6 to R12).  No command changes it; CAPS0 and CAPS1 report it (R22). -/
structure Config where
  /-- `IPV` (R6). -/
  ipv : IPVersion
  /-- `BUF_CAP` (R7): bytes of data per buffer. -/
  bufCap : Nat
  /-- `NBUF` (R8): buffers in the pool. -/
  nbuf : Nat
  /-- `NCHAN` (R9): SLIP channels, numbered from 1. -/
  nchan : Nat
  /-- `NCONN` (R10): connection slots. -/
  nconn : Nat
  /-- `FIFO_CAP` (R11): bytes of each read and of each write FIFO. -/
  fifoCap : Nat
  /-- `HOST_ADDR_RESET` (R12), in the packing of R25. -/
  hostAddrReset : AddrWords
  deriving DecidableEq, Repr

/-- `ALEN` of R13: the length of an address in bytes. -/
def Config.alen (g : Config) : Nat :=
  match g.ipv with
  | .v4 => 4
  | .v6 => 16

/-- `IPH` of R13: the length of an IP header the block builds. -/
def Config.iph (g : Config) : Nat :=
  match g.ipv with
  | .v4 => 20
  | .v6 => 40

/-- `MAXPAY_UDP` of R13. -/
def Config.maxpayUdp (g : Config) : Nat := g.bufCap - g.iph - 8

/-- `MAXPAY_TCP` of R13. -/
def Config.maxpayTcp (g : Config) : Nat := g.bufCap - g.iph - 20

/-- `ICMP_PROTO` of R13 and R176. -/
def Config.icmpProto (g : Config) : Byte :=
  match g.ipv with
  | .v4 => 1
  | .v6 => 58

/-- The value 4 or 6 that CAPS0[15:12] reports (R22). -/
def Config.ipvCode (g : Config) : BitVec 4 :=
  match g.ipv with
  | .v4 => 4
  | .v6 => 6

/-- The constraints of R13.  A parameter set that breaks one is not a model of this block (93 I9). -/
abbrev Config.valid (g : Config) : Prop :=
  (2 ≤ g.nbuf ∧ g.nbuf ≤ 255) ∧ (g.iph + 21 ≤ g.bufCap ∧ g.bufCap ≤ 65535) ∧
    (1 ≤ g.fifoCap ∧ g.fifoCap < g.maxpayTcp) ∧ (1 ≤ g.nchan ∧ g.nchan ≤ 15) ∧
    (1 ≤ g.nconn ∧ g.nconn ≤ 254)

/-- The build of 95_test_vectors.md section 0, host A: IPv4, NBUF 4, BUF_CAP 128, FIFO_CAP 16, NCONN 4, NCHAN 2, address
10.0.0.1.  DESIGN CHOICE (unsafe): the spec leaves every parameter open; log entry 1. -/
def Config.testBuild : Config where
  ipv := .v4
  bufCap := 128
  nbuf := 4
  nchan := 2
  nconn := 4
  fifoCap := 16
  hostAddrReset := ⟨0x0A000001#32, 0, 0, 0⟩

/-- FREE VALUE (R30, R73, 93 I10 and I11): what byte `o` of the data of buffer `b` reads as while nothing has written it since
the `draw`-th assertion of the reset input.  It has no body, so no proof can rest on its value; log entry 5. -/
opaque Config.freeByte (draw b o : Nat) : Byte

end Sys2Proof
end

