-- ==== Sys2Proof/Machine/Bytes.lean ====
section
/-! DEFINITION. Big-endian conversions between bytes and numbers, and byte sequences with fields patched (00_scope.md R14,
20_memory.md R71 and R72, the address packing of 10_state.md R25). -/

namespace Sys2Proof.Machine

/-- `BE16` of two bytes (R14). -/
def be16 (hi lo : Byte) : Half := hi ++ lo

/-- `BE32` of four bytes (R14). -/
def be32 (b0 b1 b2 b3 : Byte) : Word := b0 ++ b1 ++ b2 ++ b3

/-- `bytes16` of R14. -/
def bytes16 (v : Half) : List Byte := [v.extractLsb' 8 8, v.extractLsb' 0 8]

/-- `bytes32` of R14. -/
def bytes32 (v : Word) : List Byte := [v.extractLsb' 24 8, v.extractLsb' 16 8, v.extractLsb' 8 8, v.extractLsb' 0 8]

/-- `bytes16` of a length. -/
def bytes16n (n : Nat) : List Byte := bytes16 (BitVec.ofNat 16 n)

/-- Byte `i` of a sequence; every rule reads inside the sequence. -/
def byteAt (d : List Byte) (i : Nat) : Byte := d.getD i 0

/-- `BE16(d[i..i+2))`. -/
def be16At (d : List Byte) (i : Nat) : Half := be16 (byteAt d i) (byteAt d (i + 1))

/-- `BE32(d[i..i+4))`. -/
def be32At (d : List Byte) (i : Nat) : Word :=
  be32 (byteAt d i) (byteAt d (i + 1)) (byteAt d (i + 2)) (byteAt d (i + 3))

/-- `d[i..i+n)` (R14). -/
def slice (d : List Byte) (i n : Nat) : List Byte := (d.drop i).take n

/-- `d` with its bytes from `i` on replaced by those of `v`. -/
def patch (d : List Byte) (i : Nat) (v : List Byte) : List Byte := d.take i ++ v ++ d.drop (i + v.length)

/-- The number that `n` big-endian bytes stand for (R71). -/
def beNat (d : List Byte) : Nat := d.foldl (fun a x => a * 256 + x.toNat) 0

/-- The low `n` bytes of `v`, most significant first (MemWrite of R71). -/
def beBytes (n : Nat) (v : Word) : List Byte := (List.range n).map fun i => v.extractLsb' (8 * (n - 1 - i)) 8

/-- The bytes of an address, first byte on the wire first (R25); an IPv4 build uses word 0 only. -/
def addrBytes (ipv : IPVersion) (a : AddrWords) : List Byte :=
  match ipv with
  | .v4 => bytes32 a.w0
  | .v6 => bytes32 a.w0 ++ bytes32 a.w1 ++ bytes32 a.w2 ++ bytes32 a.w3

/-- The packing of an address of 4 or 16 bytes (R25); words 1 to 3 of a 4-byte address are 0. -/
def addrOfBytes (d : List Byte) : AddrWords := ⟨be32At d 0, be32At d 4, be32At d 8, be32At d 12⟩

/-- A one-bit field as a number. -/
def bit (x : Bool) : BitVec 1 := BitVec.ofBool x

end Sys2Proof.Machine
end

