-- ==== Sys2Proof/Machine/State.lean ====
section
/-! DEFINITION. The state of the NetIP packet engine as plain data (10_state.md R20 to R53), the state right after reset
(70_reset_and_hazards.md R340), and the reasons a step can stop without a next state. -/

namespace Sys2Proof.Machine

/-- LOC of R31: on a chain, in exactly one internal holder, or host-held.  The values "other" of R31 do not exist here
(93 I25). -/
inductive Loc where
  | chain (id : Nat)
  | hold
  | off
  deriving DecidableEq, Repr

/-- One buffer of the pool, but for its data, which stands in `State.mem` (R30). -/
structure Buffer where
  /-- `LEN`, 16 bits. -/
  len : Half
  /-- `REF`, 8 bits. -/
  ref : Byte
  /-- `CHAN`, 4 bits. -/
  chan : BitVec 4
  /-- `NEXT`, a handle or NONE. -/
  next : Handle
  /-- `LOC`. -/
  loc : Loc
  deriving DecidableEq, Repr

/-- The three registers of a chain (R32). -/
structure Chain where
  head : Handle
  tail : Handle
  count : Byte
  deriving DecidableEq, Repr

/-- The checksum accumulator (R34). -/
structure Csa where
  /-- `ACC`, 32 bits. -/
  acc : Word
  /-- `ODD`: one byte has been added and waits for its partner. -/
  odd : Bool
  /-- `PEND`, the waiting byte. -/
  pend : Byte
  deriving DecidableEq, Repr

/-- TXPH of R41; the codes 5 to 7 do not exist here (93 I25). -/
inductive TxPhase where
  | idle
  | lead
  | data
  | escDc
  | escDd
  deriving DecidableEq, Repr

/-- The SLIP framer's registers for one channel (R40). -/
structure SlipChan where
  rxbuf : Handle
  rxesc : Bool
  rxovf : Bool
  txcur : Handle
  txpos : Half
  txph : TxPhase
  deriving DecidableEq, Repr

/-- PROTO of R50. -/
inductive Proto where
  | udp
  | tcp
  deriving DecidableEq, Repr

/-- STATE of R51; the codes 6 and 7 do not exist here (93 I25). -/
inductive ConnState where
  | closed
  | listen
  | synSent
  | synRcvd
  | opened
  | closing
  deriving DecidableEq, Repr

/-- One connection slot (R50). -/
structure Conn where
  /-- `REG`. -/
  reg : Bool
  /-- `PROTO`. -/
  proto : Proto
  /-- `LPORT`. -/
  lport : Half
  /-- `RADDR`, in the packing of R25. -/
  raddr : AddrWords
  /-- `RPORT`. -/
  rport : Half
  /-- `RBOUND`. -/
  rbound : Bool
  /-- `STATE`. -/
  state : ConnState
  /-- `LISTENER`. -/
  listener : Bool
  /-- `RFIFO`, oldest byte first. -/
  rfifo : List Byte
  /-- `WFIFO`, oldest byte first. -/
  wfifo : List Byte
  /-- `STAGED`. -/
  staged : Handle
  /-- `SOFF`. -/
  soff : Half
  /-- `SND_SEQ`. -/
  sndSeq : Word
  /-- `RCV_ACK`. -/
  rcvAck : Word
  /-- `RETX`. -/
  retx : Handle
  /-- `RETX_CNT`. -/
  retxCnt : BitVec 4
  /-- `SYN_DUE`. -/
  synDue : Bool
  /-- `SYNACK_DUE`. -/
  synackDue : Bool
  /-- `RETX_DUE`. -/
  retxDue : Bool
  /-- `ACK_DUE`. -/
  ackDue : Bool
  /-- `EVENTS` (R53). -/
  events : BitVec 4
  deriving DecidableEq, Repr

/-- The host interface registers that hold a value of their own (R21).  CAPS0 and CAPS1 are computed from the build, CSACC and
CSSTAT from the accumulator, and CMD holds nothing.  Reserved bits are not stored: they read 0 and ignore writes. -/
structure HostRegs where
  /-- `CFG`[14:0] (R23). -/
  cfg : BitVec 15
  /-- `TCPWIN`[15:0] (R24). -/
  tcpwin : Half
  /-- `HOSTADDR0..3` (R25). -/
  hostaddr : AddrWords
  /-- `ARGADDR0..3` (R26). -/
  argaddr : AddrWords
  /-- `ARG0` (R27). -/
  arg0 : Word
  /-- `ARG1` (R27). -/
  arg1 : Word
  /-- `STATUS.ERR` (R29). -/
  err : Byte
  /-- `STATUS.LASTOP` (R29). -/
  lastop : Byte
  /-- `RES0` (R29). -/
  res0 : Word
  /-- `RES1` (R29). -/
  res1 : Word
  deriving DecidableEq, Repr

/-- One thing the host can do to the block (R16, R80, R340): read or write a register, `width` bits wide at byte `offset` of the
window, or assert the reset input.  A write to CMD is a `write` at offset 0x38 (R28). -/
inductive HostAccess where
  | read (offset width : Nat)
  | write (offset width : Nat) (value : Word)
  | reset
  deriving DecidableEq, Repr

/-- The data memory of R70 item 2: the bytes that something has written since the last assertion of the reset input, by rising
address.  An unlisted address holds no value; reading it gives a free value (log entries 5 and 6). -/
abbrev Memory := List Host.Cell

/-- The whole state of the block, and three fields of the model's own: `draw`, `input` and `readData`. -/
structure State where
  /-- The parameters of the build (R6 to R12), which no step changes. -/
  build : Config
  /-- The host interface registers (R21). -/
  regs : HostRegs
  /-- The checksum accumulator (R34). -/
  csa : Csa
  /-- `BUF[0..NBUF)` (R30). -/
  bufs : List Buffer
  /-- `BUF[b].DATA` of every buffer (R30, R70). -/
  mem : Memory
  /-- MODEL'S OWN: how often the reset input has been asserted; selects the free values of the data bytes (log entry 5). -/
  draw : Nat
  /-- `CHAIN[0..2+NCHAN]` (R32). -/
  chains : List Chain
  /-- The SLIP channels 1..NCHAN, channel `c` at index `c - 1` (R40). -/
  slf : List SlipChan
  /-- `CONN[0..NCONN)` (R50). -/
  conns : List Conn
  /-- MODEL'S OWN: what the host is about to do, next first (R16; log entry 3). -/
  input : List HostAccess
  /-- MODEL'S OWN: the value that the last host register read returned (log entry 4). -/
  readData : Option Word
  deriving DecidableEq, Repr

/-- Why the machine stops. -/
inductive Fault where
  /-- Raised by a host access at an offset outside the 256-byte window: no such address exists (R70).  Safe: the block is not
  reached. -/
  | noSuchRegister
  /-- Raised by CHAIN_REMOVE when the walk of R113 does not meet the buffer, so that R113's own premise, R33, is broken and the
  rule gives no effect (log entry 7).  Safe: the model stops. -/
  | chainWalkLost
  /-- Raised by SLIP_TX when a channel has a transmit buffer while TXPH is IDLE, for which R225 has no case; no run reaches such
  a state (log entry 8).  Safe: the model stops. -/
  | slipPhaseLost
  deriving DecidableEq, Repr

/-- Why the model has no step. -/
inductive Refusal where
  /-- Raised by `exec` for a command that has no meaning yet.  Safe: nothing is claimed of it. -/
  | notModelled (mnemonic : String)
  /-- Raised by a host access that is not 32 bits wide or not at a multiple of 4, which R80 leaves undefined and tells the model
  to refuse (93 I14).  Safe. -/
  | undefinedAccess
  /-- Raised by every step of a parameter set that breaks a constraint of R13, which is no model of this block (93 I9).  Safe. -/
  | invalidBuild
  deriving DecidableEq, Repr

/-- An empty chain (R32). -/
def emptyChain : Chain := { head := NONE, tail := NONE, count := 0 }

/-- An idle channel (R340). -/
def idleChannel : SlipChan :=
  { rxbuf := NONE, rxesc := false, rxovf := false, txcur := NONE, txpos := 0, txph := .idle }

/-- An address of zeros. -/
def zeroAddr : AddrWords := ⟨0, 0, 0, 0⟩

/-- A slot as reset leaves it (R50, R340). -/
def idleConn : Conn :=
  { reg := false, proto := .udp, lport := 0, raddr := zeroAddr, rport := 0, rbound := false, state := .closed,
    listener := false, rfifo := [], wfifo := [], staged := NONE, soff := 0, sndSeq := 0, rcvAck := 0, retx := NONE,
    retxCnt := 0, synDue := false, synackDue := false, retxDue := false, ackDue := false, events := 0 }

/-- Buffer `b` as reset leaves it: spare, linked to the next handle (R30, R340). -/
def resetBuffer (nbuf b : Nat) : Buffer :=
  { len := 0, ref := 0, chan := 0, next := if b + 1 < nbuf then BitVec.ofNat 8 (b + 1) else NONE, loc := .chain 0 }

/-- The chains as reset leaves them: every buffer on SPARE in handle order (R32). -/
def resetChains (g : Config) : List Chain :=
  { head := 0, tail := BitVec.ofNat 8 (g.nbuf - 1), count := BitVec.ofNat 8 g.nbuf } ::
    List.replicate (2 + g.nchan) emptyChain

/-- HOST_ADDR_RESET as HOSTADDR holds it: in an IPv4 build words 1 to 3 do not exist and read 0 (R25). -/
def resetHostaddr (g : Config) : AddrWords :=
  match g.ipv with
  | .v4 => ⟨g.hostAddrReset.w0, 0, 0, 0⟩
  | .v6 => g.hostAddrReset

/-- The host registers as reset leaves them (R21 to R29, R340). -/
def resetRegs (g : Config) : HostRegs :=
  { cfg := 0x1440#15, tcpwin := BitVec.ofNat 16 g.maxpayTcp, hostaddr := resetHostaddr g, argaddr := zeroAddr, arg0 := 0,
    arg1 := 0, err := 0, lastop := 0, res0 := 0, res1 := 0 }

/-- The machine of build `g` right after reset (R340).  No data byte has been written. -/
def State.resetOf (g : Config) : State :=
  { build := g, regs := resetRegs g, csa := { acc := 0, odd := false, pend := 0 },
    bufs := (List.range g.nbuf).map (resetBuffer g.nbuf), mem := [], draw := 0, chains := resetChains g,
    slf := List.replicate g.nchan idleChannel, conns := List.replicate g.nconn idleConn, input := [], readData := none }

/-- The machine right after reset, in the build of 95_test_vectors.md (log entry 1). -/
def State.reset : State := State.resetOf Config.testBuild

end Sys2Proof.Machine
end

