-- ==== Sys2Proof/Machine/Flags.lean ====
section
/-! DEFINITION. The codes and bit layouts of the block: the fields of CFG and STATUS, the words CAPS0, CAPS1 and CSSTAT
(10_state.md R22 to R34), the result words of BUF_INFO, SLIP_STATE and CONN_STATUS (40_pool.md R126, 43_slip.md R228,
44_connection.md R254), the EVENTS bits (R53) and the TCP flag bits (42_header.md R173). -/

namespace Sys2Proof.Machine

/-! ### CFG (R23) -/

/-- `CFG.TTL`, bits [7:0]. -/
def cfgTtl (cfg : BitVec 15) : Byte := cfg.extractLsb' 0 8

/-- `CFG.MAXATT`, bits [11:8]. -/
def cfgMaxatt (cfg : BitVec 15) : BitVec 4 := cfg.extractLsb' 8 4

/-- `CFG.LEAD`, bit 12. -/
def cfgLead (cfg : BitVec 15) : Bool := cfg.getLsbD 12

/-- `CFG.CSV`, bit 13. -/
def cfgCsv (cfg : BitVec 15) : Bool := cfg.getLsbD 13

/-- `CFG.ICMP4PH`, bit 14. -/
def cfgIcmp4ph (cfg : BitVec 15) : Bool := cfg.getLsbD 14

/-! ### The read-only words of the host window -/

/-- STATUS: reserved, LASTOP, ERR (R29). -/
def statusWord (r : HostRegs) : Word := 0#16 ++ r.lastop ++ r.err

/-- CAPS0: BUF_CAP, IPV, NCHAN, NBUF (R22). -/
def caps0Word (g : Config) : Word :=
  BitVec.ofNat 16 g.bufCap ++ g.ipvCode ++ BitVec.ofNat 4 g.nchan ++ BitVec.ofNat 8 g.nbuf

/-- CAPS1: reserved, NCONN, FIFO_CAP (R22). -/
def caps1Word (g : Config) : Word := 0#8 ++ BitVec.ofNat 8 g.nconn ++ BitVec.ofNat 16 g.fifoCap

/-- CSSTAT: PEND in [15:8], ODD in [0] (R34). -/
def csstatWord (a : Csa) : Word := 0#16 ++ a.pend ++ 0#7 ++ bit a.odd

/-! ### BUF_INFO (R126) -/

/-- The code of LOC (R31). -/
def locCode : Loc → BitVec 5
  | .chain id => BitVec.ofNat 5 id
  | .hold => 0x1E
  | .off => 0x1F

/-- RES0 of BUF_INFO: LEN, REF, CHAN. -/
def bufInfo0 (x : Buffer) : Word := 0#4 ++ x.chan ++ x.ref ++ x.len

/-- RES1 of BUF_INFO: LOC, NEXT. -/
def bufInfo1 (x : Buffer) : Word := 0#16 ++ x.next ++ 0#3 ++ locCode x.loc

/-! ### SLIP_STATE (R228) -/

/-- The code of TXPH (R41). -/
def txphCode : TxPhase → BitVec 3
  | .idle => 0
  | .lead => 1
  | .data => 2
  | .escDc => 3
  | .escDd => 4

/-- RES0 of SLIP_STATE: RXBUF, RXESC, RXOVF, TXCUR, TXPH. -/
def slipStateWord (x : SlipChan) : Word :=
  0#5 ++ txphCode x.txph ++ x.txcur ++ 0#6 ++ bit x.rxovf ++ bit x.rxesc ++ x.rxbuf

/-! ### CONN_STATUS (R254) -/

/-- The code of STATE (R51). -/
def connStateCode : ConnState → BitVec 3
  | .closed => 0
  | .listen => 1
  | .synSent => 2
  | .synRcvd => 3
  | .opened => 4
  | .closing => 5

/-- The code of PROTO (R50). -/
def protoCode : Proto → BitVec 1
  | .udp => 0
  | .tcp => 1

/-- The protocol that ARG0[0] names (R246). -/
def protoOf (tcp : Bool) : Proto := if tcp then .tcp else .udp

/-- RES0 of CONN_STATUS. -/
def connStatus0 (x : Conn) : Word :=
  x.retx ++ x.staged ++ x.retxCnt ++ 0#1 ++ bit x.ackDue ++ bit x.retxDue ++ bit x.synackDue ++ bit x.synDue ++
    bit x.listener ++ bit x.rbound ++ bit x.reg ++ protoCode x.proto ++ connStateCode x.state

/-- RES1 of CONN_STATUS: the FIFO counts. -/
def connStatus1 (x : Conn) : Word := BitVec.ofNat 16 x.wfifo.length ++ BitVec.ofNat 16 x.rfifo.length

/-! ### EVENTS (R53) -/

abbrev evOpened : BitVec 4 := 1
abbrev evClosed : BitVec 4 := 2
abbrev evData : BitVec 4 := 4
abbrev evGaveup : BitVec 4 := 8

/-! ### TCP flags (R173) -/

abbrev flFin : Byte := 0x01
abbrev flSyn : Byte := 0x02
abbrev flRst : Byte := 0x04
abbrev flPsh : Byte := 0x08
abbrev flAck : Byte := 0x10

/-- `fl & m` is nonzero. -/
def hasFlag (fl m : Byte) : Bool := fl &&& m != 0

/-- `BareSyn` of R299. -/
def bareSyn (fl : Byte) : Bool := hasFlag fl flSyn && !hasFlag fl (flAck ||| flRst ||| flFin)

/-! ### SLIP bytes (R220) -/

abbrev slipEnd : Byte := 0xC0
abbrev slipEsc : Byte := 0xDB
abbrev slipEscEnd : Byte := 0xDC
abbrev slipEscEsc : Byte := 0xDD

end Sys2Proof.Machine
end

