-- ==== Sys2Proof/Machine/Ops.lean ====
section
/-! DEFINITION. The named operations over the state that every meaning is written in: ending a command with success or with an
error (60_exceptions.md R320, R321), the data memory (20_memory.md R70 to R73), the records of the units, and the chain
primitives (40_pool.md R110 to R115).

The block has no exception entry and no return from one (R323, R336): a command error is the only exceptional ending, and
`State.raiseError` is it. -/

namespace Sys2Proof.Machine

/-- What a command's meaning answers. -/
abbrev Answer := Host.Outcome State Fault Refusal

/-! ### Ending a command -/

/-- The error names of R321 but for OK. -/
inductive CmdError where
  | illegal
  | handle
  | chain
  | busy
  | notMember
  | range
  | refcnt
  | slot
  | state
  | port
  | notEcho
  deriving DecidableEq, Repr

/-- The error codes of R321. -/
def errCode : CmdError → Byte
  | .illegal => 1
  | .handle => 2
  | .chain => 3
  | .busy => 4
  | .notMember => 5
  | .range => 6
  | .refcnt => 7
  | .slot => 8
  | .state => 9
  | .port => 10
  | .notEcho => 11

/-- Write STATUS, RES0 and RES1, which every command does (R29). -/
def State.finish (s : State) (op err : Byte) (r0 r1 : Word) : State :=
  { s with regs := { s.regs with err := err, lastop := op, res0 := r0, res1 := r1 } }

/-- `raise Error(e)`: STATUS gets the code and the opcode, RES0 and RES1 become 0, nothing else changes (R320). -/
def State.raiseError (s : State) (op : Byte) (e : CmdError) : State := s.finish op (errCode e) 0 0

/-- The outcome of `raise Error(e)`. -/
def State.fail (s : State) (op : Byte) (e : CmdError) : Answer := .next (s.raiseError op e)

/-- `return (r0, r1)` (R15, R320). -/
def State.done (s : State) (op : Byte) (r0 r1 : Word) : Answer := .next (s.finish op 0 r0 r1)

/-! ### The data memory -/

/-- The byte listed at an address. -/
def Memory.get? : Memory → Nat → Option Byte
  | [], _ => none
  | (a, v) :: m, x => if a = x then some v else Memory.get? m x

/-- Store one byte, keeping the addresses strictly rising. -/
def Memory.put : Memory → Nat → Byte → Memory
  | [], x, v => [(x, v)]
  | (a, w) :: m, x, v =>
    if x < a then (x, v) :: (a, w) :: m else if x = a then (x, v) :: m else (a, w) :: Memory.put m x v

/-- Store bytes at consecutive addresses, the first at `x`. -/
def Memory.putAll (m : Memory) (x : Nat) : List Byte → Memory
  | [] => m
  | v :: vs => Memory.putAll (m.put x v) (x + 1) vs

/-- The canonical form: addresses strictly rising.  An unlisted address holds no value, so no entry can equal one. -/
abbrev Memory.wf (m : Memory) : Prop := (m.map Prod.fst).Pairwise (· < ·)

/-- The address of byte `o` of the data of buffer `b` (log entry 6). -/
def dataAddr (b : Handle) (o : Nat) : Nat := b.toNat * 65536 + o

/-- `BUF[b].DATA[o]`: the byte last written, or the free value of a byte that nothing has written (R73, 93 I10 to I12). -/
def State.readByte (s : State) (b : Handle) (o : Nat) : Byte :=
  (s.mem.get? (dataAddr b o)).getD (Config.freeByte s.draw b.toNat o)

/-- `BUF[b].DATA[o .. o+n)`. -/
def State.readBytes (s : State) (b : Handle) (o n : Nat) : List Byte := (List.range n).map fun i => s.readByte b (o + i)

/-- `BUF[b].DATA[o .. o+|d|) <- d`. -/
def State.writeBytes (s : State) (b : Handle) (o : Nat) (d : List Byte) : State :=
  { s with mem := s.mem.putAll (dataAddr b o) d }

/-- `MemRead(b, o, n)` of R71. -/
def State.memRead (s : State) (b : Handle) (o n : Nat) : Word := BitVec.ofNat 32 (beNat (s.readBytes b o n))

/-- `MemWrite(b, o, n, v)` of R71. -/
def State.memWrite (s : State) (b : Handle) (o n : Nat) (v : Word) : State := s.writeBytes b o (beBytes n v)

/-! ### The records of the units

Every rule names a record that exists.  In a state that no run reaches a handle may name no buffer: the record read is then the
one below, and a write to it is lost (log entry 15). -/

/-- What reading the record of a handle that names no buffer gives. -/
def absentBuffer : Buffer := { len := 0, ref := 0, chan := 0, next := NONE, loc := .off }

/-- `BUF[b]` (R30). -/
def State.buf (s : State) (b : Handle) : Buffer := s.bufs.getD b.toNat absentBuffer

/-- Update `BUF[b]`. -/
def State.setBuf (s : State) (b : Handle) (f : Buffer → Buffer) : State := { s with bufs := s.bufs.modify b.toNat f }

/-- `CHAIN[c]` (R32). -/
def State.chain (s : State) (c : Nat) : Chain := s.chains.getD c emptyChain

/-- Update `CHAIN[c]`. -/
def State.setChain (s : State) (c : Nat) (f : Chain → Chain) : State := { s with chains := s.chains.modify c f }

/-- The SLIP registers of channel `c`, 1 to NCHAN (R40). -/
def State.slip (s : State) (c : Nat) : SlipChan := s.slf.getD (c - 1) idleChannel

/-- Update the SLIP registers of channel `c`. -/
def State.setSlip (s : State) (c : Nat) (f : SlipChan → SlipChan) : State := { s with slf := s.slf.modify (c - 1) f }

/-- `CONN[k]` (R50). -/
def State.conn (s : State) (k : Nat) : Conn := s.conns.getD k idleConn

/-- Update `CONN[k]`. -/
def State.setConn (s : State) (k : Nat) (f : Conn → Conn) : State := { s with conns := s.conns.modify k f }

/-- Set `EVENTS` bits of `CONN[k]` (R53). -/
def State.raiseEvent (s : State) (k : Nat) (e : BitVec 4) : State :=
  s.setConn k fun x => { x with events := x.events ||| e }

/-- Replace the accumulator. -/
def State.setCsa (s : State) (a : Csa) : State := { s with csa := a }

/-- Replace ARGADDR, which CONN_GETREMOTE does (R257). -/
def State.setArgaddr (s : State) (a : AddrWords) : State := { s with regs := { s.regs with argaddr := a } }

/-! ### Chain ids (R32) -/

abbrev SPARE : Nat := 0
abbrev PENDING : Nat := 1
abbrev OUTBOUND : Nat := 2

/-- The id of TX(c). -/
def txChain (c : Nat) : Nat := 2 + c

/-! ### Chain primitives (R110 to R115) -/

/-- `BUF[b].LOC <- l`. -/
def State.setLoc (s : State) (b : Handle) (l : Loc) : State := s.setBuf b fun x => { x with loc := l }

/-- `BUF[b].NEXT <- h`. -/
def State.setNext (s : State) (b h : Handle) : State := s.setBuf b fun x => { x with next := h }

/-- `PushTail(c, b)` (R110). -/
def State.pushTail (s : State) (c : Nat) (b : Handle) : State :=
  let t := s.setNext b NONE
  let u := if (t.chain c).tail = NONE then t.setChain c fun x => { x with head := b } else t.setNext (t.chain c).tail b
  (u.setChain c fun x => { x with tail := b, count := x.count + 1 }).setLoc b (.chain c)

/-- `PushHead(c, b)` (R111). -/
def State.pushHead (s : State) (c : Nat) (b : Handle) : State :=
  let t := s.setNext b (s.chain c).head
  (t.setChain c fun x =>
    { head := b, tail := if x.tail = NONE then b else x.tail, count := x.count + 1 }).setLoc b (.chain c)

/-- `PopHead(c)` (R112): the handle, NONE if the chain is empty, and the state after. -/
def State.popHead (s : State) (c : Nat) : Handle × State :=
  let b := (s.chain c).head
  if b = NONE then (NONE, s)
  else
    let h := (s.buf b).next
    (b, ((s.setChain c fun x =>
      { head := h, tail := if h = NONE then NONE else x.tail, count := x.count - 1 }).setNext b NONE).setLoc b .off)

/-- The walk of R113 from `cur`, whose predecessor is `prev`: the predecessor of `b`.  `none` where the walk does not meet `b`
within `fuel` links; a chain has at most NBUF. -/
def State.findPrev (s : State) (b : Handle) : Nat → Handle → Handle → Option Handle
  | 0, _, _ => none
  | fuel + 1, prev, cur =>
    if cur = b then some prev else if cur = NONE then none else s.findPrev b fuel cur (s.buf cur).next

/-- `Remove(c, b)` (R113); `none` where the walk does not meet `b` (log entry 7). -/
def State.remove (s : State) (c : Nat) (b : Handle) : Option State :=
  match s.findPrev b s.build.nbuf NONE (s.chain c).head with
  | none => none
  | some prev =>
    let h := (s.buf b).next
    let t := if prev = NONE then s.setChain c fun x => { x with head := h } else s.setNext prev h
    some (((t.setChain c fun x =>
      { x with tail := if x.tail = b then prev else x.tail, count := x.count - 1 }).setNext b NONE).setLoc b .off)

/-- `TakeSpare()` (R114): LEN and CHAN become 0, DATA stays (R83). -/
def State.takeSpare (s : State) : Handle × State :=
  let r := s.popHead SPARE
  if r.1 = NONE then r else (r.1, r.2.setBuf r.1 fun x => { x with len := 0, chan := 0 })

/-- `Release(b)` (R115): whether the buffer went to SPARE, and the state after. -/
def State.release (s : State) (b : Handle) : Bool × State :=
  if (s.buf b).ref = 0 then (true, s.pushHead SPARE b) else (false, s)

end Sys2Proof.Machine
end

