-- ==== Sys2Proof/WellFormed.lean ====
section
/-! DEFINITION. When a command's operands name something that exists in a build: the operand checks of 30_encoding.md R93 and
60_exceptions.md R322 item 2 that need no state.  Every term of `Instr` has an encoding, since its fields carry the widths of
R92; what can be ill formed is an operand that names nothing.  An ill-formed command still runs: it ends with the error code
that its rule names (R320). -/

namespace Sys2Proof

/-- A handle that names a buffer of the pool (R93). -/
abbrev Config.hasBuffer (g : Config) (b : Handle) : Prop := b.toNat < g.nbuf

/-- An id that names a chain (R32, R93). -/
abbrev Config.hasChain (g : Config) (c : Byte) : Prop := c.toNat ≤ 2 + g.nchan

/-- A number that names a SLIP channel (R9, R93). -/
abbrev Config.hasChannel (g : Config) (c : Byte) : Prop := 1 ≤ c.toNat ∧ c.toNat ≤ g.nchan

/-- A number that names a connection slot (R93, R240). -/
abbrev Config.hasSlot (g : Config) (k : Byte) : Prop := k.toNat < g.nconn

/-- The accesses to `n` bytes from offset `o` that R73 calls legal. -/
abbrev Config.inData (g : Config) (o n : Nat) : Prop := o + n ≤ g.bufCap

/-- Every operand of the command names something that exists in the build, or is in range (R93, R322 item 2). -/
def Instr.wellFormed (g : Config) : Instr → Bool
  | .nop => true
  | .getSpare => true
  | .addSpare b => decide (g.hasBuffer b)
  | .queue b => decide (g.hasBuffer b)
  | .ref b => decide (g.hasBuffer b)
  | .unref b => decide (g.hasBuffer b)
  | .retained b => decide (g.hasBuffer b)
  | .bufInfo b => decide (g.hasBuffer b)
  | .chainPush c b _ => decide (g.hasChain c ∧ c ≠ 0 ∧ g.hasBuffer b)
  | .chainPop c => decide (g.hasChain c ∧ c ≠ 0)
  | .chainPeek c => decide (g.hasChain c)
  | .chainRemove c b => decide (g.hasChain c ∧ c ≠ 0 ∧ g.hasBuffer b)
  | .chainCount c => decide (g.hasChain c)
  | .chainNext b => decide (g.hasBuffer b)
  | .bufRd8 b o => decide (g.hasBuffer b ∧ g.inData o.toNat 1)
  | .bufRd16 b o => decide (g.hasBuffer b ∧ g.inData o.toNat 2)
  | .bufRd32 b o => decide (g.hasBuffer b ∧ g.inData o.toNat 4)
  | .bufWr8 b o => decide (g.hasBuffer b ∧ g.inData o.toNat 1)
  | .bufWr16 b o => decide (g.hasBuffer b ∧ g.inData o.toNat 2)
  | .bufWr32 b o => decide (g.hasBuffer b ∧ g.inData o.toNat 4)
  | .bufSetlen b v => decide (g.hasBuffer b ∧ v.toNat ≤ g.bufCap)
  | .bufSetchan b _ => decide (g.hasBuffer b)
  | .csClear => true
  | .csAdd16 => true
  | .csAdd32 => true
  | .csAddbuf b o => decide (g.hasBuffer b ∧ g.inData o.toNat 0)
  | .csAddaddr sel => decide (sel.toNat ≤ 1)
  | .csFinal => true
  | .sniff b => decide (g.hasBuffer b)
  | .pingToPong b => decide (g.hasBuffer b)
  | .buildEcho b _ => decide (g.hasBuffer b)
  | .slipRx c _ => decide (g.hasChannel c)
  | .slipTx c => decide (g.hasChannel c)
  | .slipState c => decide (g.hasChannel c)
  | .connInit k _ => decide (g.hasSlot k)
  | .connReg k _ => decide (g.hasSlot k)
  | .connReset k => decide (g.hasSlot k)
  | .connSetremote k _ => decide (g.hasSlot k)
  | .connOpen k => decide (g.hasSlot k)
  | .connConnect k _ => decide (g.hasSlot k)
  | .connClose k => decide (g.hasSlot k)
  | .connUpdate k => decide (k = 0xFF#8 ∨ g.hasSlot k)
  | .connTimeout k => decide (g.hasSlot k)
  | .connAccept b => decide (g.hasBuffer b)
  | .connRead k n => decide (g.hasSlot k ∧ n.toNat ≤ 4)
  | .connWrite k n => decide (g.hasSlot k ∧ n.toNat ≤ 4)
  | .connStatus k => decide (g.hasSlot k)
  | .connEvents k => decide (g.hasSlot k)
  | .connListener k _ => decide (g.hasSlot k)
  | .connTcpinfo k => decide (g.hasSlot k)
  | .connGetremote k => decide (g.hasSlot k)
  | .softReset => true

end Sys2Proof
end

