-- ==== Sys2Proof/Machine/Operands.lean ====
section
/-! DEFINITION. Operand assembly (30_encoding.md R91 to R93): the operand registers as the commands read them, the checks of a
named buffer, and results as words. -/

namespace Sys2Proof.Machine

/-- `HOST`: this host's address as a byte sequence (R25). -/
def State.hostBytes (s : State) : List Byte := addrBytes s.build.ipv s.regs.hostaddr

/-- `ARGADDR` as a byte sequence (R26). -/
def State.argaddrBytes (s : State) : List Byte := addrBytes s.build.ipv s.regs.argaddr

/-- ARG0[15:0]. -/
def State.arg0Low (s : State) : Half := s.regs.arg0.extractLsb' 0 16

/-- Bytes 0 to n-1 of ARG0, left-aligned (R262). -/
def State.arg0Bytes (s : State) (n : Nat) : List Byte := (bytes32 s.regs.arg0).take n

/-- Up to four bytes left-aligned in a word, missing bytes 0 (R261). -/
def leftAligned (d : List Byte) : Word := be32At d 0

/-- A handle as a result word (R120). -/
def handleWord (b : Handle) : Word := 0#24 ++ b

/-- A byte as a result word. -/
def byteWord (x : Byte) : Word := 0#24 ++ x

/-- A 16-bit value as a result word. -/
def halfWord (x : Half) : Word := 0#16 ++ x

/-- A count as a result word. -/
def natWord (n : Nat) : Word := BitVec.ofNat 32 n

/-- 1 or 0 as a result word. -/
def boolWord (x : Bool) : Word := if x then 1 else 0

/-- The buffer is host-held (R31). -/
abbrev State.hostHeld (s : State) (b : Handle) : Prop := (s.buf b).loc = .off

end Sys2Proof.Machine
end

