-- ==== Sys2Proof/Machine/Checksum.lean ====
section
/-! DEFINITION. The Internet checksum (41_checksum.md R150 to R156) and the checksum accumulator unit: CS_CLEAR to CS_FINAL
(R160 to R165). -/

namespace Sys2Proof.Machine

/-! ### The algorithm -/

/-- `a +ec v`, the end-around-carry sum (R152). -/
def addEc (a : Word) (v : Half) : Word :=
  let s := a.toNat + v.toNat
  if 2 ^ 32 ≤ s then BitVec.ofNat 32 (s - 2 ^ 32 + 1) else BitVec.ofNat 32 s

/-- One turn of the loop of R153; without effect once no carry remains. -/
def foldOnce (a : Nat) : Nat := if a / 65536 = 0 then a else a % 65536 + a / 65536

/-- `Fold(a)` (R153), whose loop runs at most twice. -/
def fold (a : Word) : Half := BitVec.ofNat 16 (foldOnce (foldOnce a.toNat))

/-- The loop of R150 from accumulator `a`: big-endian words, a trailing odd byte zero-padded. -/
def sumFrom (a : Word) : List Byte → Word
  | [] => a
  | [x] => addEc a (be16 x 0)
  | x :: y :: d => sumFrom (addEc a (be16 x y)) d

/-- `Sum(d)` (R150). -/
def sum (d : List Byte) : Word := sumFrom 0 d

/-- `Csum(d)` (R150). -/
def csum (d : List Byte) : Half := ~~~ fold (sum d)

/-- The transmit form of a UDP checksum: a computed 0 is sent as 0xFFFF (R204). -/
def udpForm (c : Half) : Half := if c = 0 then 0xFFFF else c

/-- `Verify(d, f, udp)` under CFG.CSV (R155). -/
def verify (csv : Bool) (d : List Byte) (f : Nat) (udp : Bool) : Bool :=
  let stored := be16At d f
  let z := patch d f [0, 0]
  if csv then ~~~ fold (addEc (sum z) stored) == 0
  else (if udp then udpForm (csum z) else csum z) == stored

/-! ### Byte-stream accumulation (R151) -/

/-- `AddByte(x)` (R151). -/
def addByte (a : Csa) (x : Byte) : Csa :=
  if a.odd then { acc := addEc a.acc (be16 a.pend x), odd := false, pend := 0 }
  else { acc := a.acc, odd := true, pend := x }

/-- `AddBytes` (R151). -/
def addBytes (a : Csa) (d : List Byte) : Csa := d.foldl addByte a

/-- The accumulator with a pending byte zero-padded (R165). -/
def padded (a : Csa) : Word := if a.odd then addEc a.acc (be16 a.pend 0) else a.acc

/-- Add bytes to the accumulator and return ACC. -/
def State.accumulate (s : State) (op : Byte) (d : List Byte) : Answer :=
  let a := addBytes s.csa d
  (s.setCsa a).done op a.acc 0

/-! ### Accumulator commands -/

/-- CS_CLEAR (R160). -/
def execCsClear (s : State) : Answer := (s.setCsa { acc := 0, odd := false, pend := 0 }).done 0x20 0 0

/-- CS_ADD16 (R161). -/
def execCsAdd16 (s : State) : Answer := s.accumulate 0x21 (bytes16 s.arg0Low)

/-- CS_ADD32 (R162). -/
def execCsAdd32 (s : State) : Answer := s.accumulate 0x22 (bytes32 s.regs.arg0)

/-- CS_ADDBUF (R163). -/
def execCsAddbuf (b : Handle) (o : Half) (s : State) : Answer :=
  if ¬ s.build.hasBuffer b then s.fail 0x23 .handle
  else if ¬ s.build.inData o.toNat s.arg0Low.toNat then s.fail 0x23 .range
  else s.accumulate 0x23 (s.readBytes b o.toNat s.arg0Low.toNat)

/-- CS_ADDADDR (R164). -/
def execCsAddaddr (sel : Byte) (s : State) : Answer :=
  if sel = 0 then s.accumulate 0x24 s.argaddrBytes
  else if sel = 1 then s.accumulate 0x24 s.hostBytes
  else s.fail 0x24 .range

/-- CS_FINAL (R165). -/
def execCsFinal (s : State) : Answer :=
  let f := fold (padded s.csa)
  s.done 0x25 (halfWord (~~~ f)) (halfWord f)

end Sys2Proof.Machine
end

