-- ==== Sys2Proof/Machine/Header.lean ====
section
/-! DEFINITION. The header parser-serializer: the wire positions and the pseudo-header (42_header.md R170 to R179), the sniff
classifier (R180 to R184), header generation (R200 to R203), and SNIFF, PING_TO_PONG and BUILD_ECHO (R185 to R187). -/

namespace Sys2Proof.Machine

/-! ### Wire positions and the pseudo-header -/

/-- `SrcOff` (R177). -/
def srcOff : IPVersion → Nat
  | .v4 => 12
  | .v6 => 8

/-- `DstOff` (R177). -/
def dstOff : IPVersion → Nat
  | .v4 => 16
  | .v6 => 24

/-- Protocol number of TCP (R176). -/
abbrev protoTcp : Byte := 6

/-- Protocol number of UDP (R176). -/
abbrev protoUdp : Byte := 17

/-- `PH4` or `PH6`, by the build (R178). -/
def pseudoHeader (ipv : IPVersion) (src dst : List Byte) (p : Byte) (n : Nat) : List Byte :=
  match ipv with
  | .v4 => src ++ dst ++ [0x00, p] ++ bytes16n n
  | .v6 => src ++ dst ++ bytes32 (BitVec.ofNat 32 n) ++ [0x00, 0x00, 0x00, p]

/-! ### The sniff classifier -/

/-- The HeaderSniff outcomes (R181). -/
inductive HeaderSniff where
  | okay
  | echoRequest
  | echoReply
  | frameError
  | ipv4
  | ipv4FrameError
  | ipv4PacketTooShort
  | ipv4Checksum
  | ipv6
  | ipv6FrameError
  | ipv6PacketTooShort
  | protocolUnsupported
  | protocolFrameError
  | protocolPacketTooShort
  | protocolChecksum
  deriving DecidableEq, Repr

/-- The codes of R181. -/
def sniffCode : HeaderSniff → Word
  | .okay => 0
  | .echoRequest => 1
  | .echoReply => 2
  | .frameError => 3
  | .ipv4 => 4
  | .ipv4FrameError => 5
  | .ipv4PacketTooShort => 6
  | .ipv4Checksum => 7
  | .ipv6 => 8
  | .ipv6FrameError => 9
  | .ipv6PacketTooShort => 10
  | .protocolUnsupported => 11
  | .protocolFrameError => 12
  | .protocolPacketTooShort => 13
  | .protocolChecksum => 14

/-- What Sniff returns (R180): a code alone, or for hs_Okay, hs_EchoRequest and hs_EchoReply also the triple
`(proto, H, n)`. -/
inductive Sniffed where
  | bad (code : HeaderSniff)
  | packet (code : HeaderSniff) (proto : Byte) (h n : Nat)
  deriving DecidableEq, Repr

/-- What Sniff reads besides the buffer: IPV, CFG.CSV and CFG.ICMP4PH (R180). -/
structure SniffMode where
  ipv : IPVersion
  csv : Bool
  icmp4ph : Bool
  deriving DecidableEq, Repr

/-- ICMP_PROTO of the build (R176). -/
def icmpProtoOf : IPVersion → Byte
  | .v4 => 1
  | .v6 => 58

/-- ALEN of the build (R13). -/
def alenOf : IPVersion → Nat
  | .v4 => 4
  | .v6 => 16

/-- `Src` of a packet's bytes (R177). -/
def srcOf (ipv : IPVersion) (d : List Byte) : List Byte := slice d (srcOff ipv) (alenOf ipv)

/-- `Dst` of a packet's bytes (R177). -/
def dstOf (ipv : IPVersion) (d : List Byte) : List Byte := slice d (dstOff ipv) (alenOf ipv)

/-- The pseudo-header of the message at `h` of packet `d` (R178). -/
def packetPh (ipv : IPVersion) (d : List Byte) (h : Nat) (p : Byte) : List Byte :=
  pseudoHeader ipv (srcOf ipv d) (dstOf ipv d) p (d.length - h)

/-- The pseudo-header of an ICMP message, or nothing for an ICMPv4 message unless CFG.ICMP4PH is set (R179, C1). -/
def icmpPh (m : SniffMode) (d : List Byte) (h : Nat) : List Byte :=
  if m.ipv = .v6 ∨ m.icmp4ph = true then packetPh m.ipv d h (icmpProtoOf m.ipv) else []

/-- `SniffTCP` for the message at `h` of packet `d` (R182). -/
def sniffTcp (m : SniffMode) (d : List Byte) (h : Nat) : Sniffed :=
  let n := d.length - h
  let msg := d.drop h
  let dataOff := (byteAt msg 12).toNat / 16
  let ph := packetPh m.ipv d h protoTcp
  if n < 20 then .bad .protocolPacketTooShort
  else if dataOff < 5 then .bad .protocolFrameError
  else if n < dataOff * 4 then .bad .protocolPacketTooShort
  else if verify m.csv (ph ++ msg) (ph.length + 16) false = false then .bad .protocolChecksum
  else .packet .okay protoTcp h n

/-- `SniffUDP` for the message at `h` of packet `d` (R183). -/
def sniffUdp (m : SniffMode) (d : List Byte) (h : Nat) : Sniffed :=
  let n := d.length - h
  let msg := d.drop h
  let ph := packetPh m.ipv d h protoUdp
  if n < 8 then .bad .protocolPacketTooShort
  else if (be16At msg 4).toNat ≠ n then .bad .protocolFrameError
  else if m.ipv = .v4 ∧ be16At msg 6 = 0 then .packet .okay protoUdp h n
  else if verify m.csv (ph ++ msg) (ph.length + 6) true = false then .bad .protocolChecksum
  else .packet .okay protoUdp h n

/-- The type byte of an echo request (R175). -/
def echoRequestType : IPVersion → Byte
  | .v4 => 8
  | .v6 => 128

/-- The type byte of an echo reply (R175). -/
def echoReplyType : IPVersion → Byte
  | .v4 => 0
  | .v6 => 129

/-- `SniffICMP` for the message at `h` of packet `d` (R184). -/
def sniffIcmp (m : SniffMode) (d : List Byte) (h : Nat) : Sniffed :=
  let n := d.length - h
  let msg := d.drop h
  let ph := icmpPh m d h
  if n < 8 then .bad .protocolPacketTooShort
  else if verify m.csv (ph ++ msg) (ph.length + 2) false = false then .bad .protocolChecksum
  else if byteAt msg 0 = echoRequestType m.ipv then .packet .echoRequest (icmpProtoOf m.ipv) h n
  else if byteAt msg 0 = echoReplyType m.ipv then .packet .echoReply (icmpProtoOf m.ipv) h n
  else .bad .protocolUnsupported

/-- Step 5 of R180: dispatch on the protocol number. -/
def sniffProto (m : SniffMode) (d : List Byte) (h : Nat) (proto : Byte) : Sniffed :=
  if proto = protoTcp then sniffTcp m d h
  else if proto = protoUdp then sniffUdp m d h
  else if proto = icmpProtoOf m.ipv then sniffIcmp m d h
  else .bad .protocolUnsupported

/-- Steps 2 to 5 of R180 in an IPv4 build. -/
def sniffV4 (m : SniffMode) (d : List Byte) : Sniffed :=
  let v := (byteAt d 0).toNat / 16
  let ihl := (byteAt d 0).toNat % 16
  let h := ihl * 4
  if v = 6 then .bad .ipv6
  else if v ≠ 4 then .bad .frameError
  else if d.length < 20 then .bad .ipv4PacketTooShort
  else if ihl < 5 then .bad .ipv4FrameError
  else if d.length < h then .bad .ipv4PacketTooShort
  else if (be16At d 2).toNat ≠ d.length then .bad .ipv4FrameError
  else if verify m.csv (d.take h) 10 false = false then .bad .ipv4Checksum
  else sniffProto m d h (byteAt d 9)

/-- Steps 2 to 5 of R180 in an IPv6 build. -/
def sniffV6 (m : SniffMode) (d : List Byte) : Sniffed :=
  let v := (byteAt d 0).toNat / 16
  if v = 4 then .bad .ipv4
  else if v ≠ 6 then .bad .frameError
  else if d.length < 40 then .bad .ipv6PacketTooShort
  else if (be16At d 4).toNat + 40 ≠ d.length then .bad .ipv6FrameError
  else sniffProto m d 40 (byteAt d 6)

/-- `Sniff` of the bytes of a packet (R180). -/
def sniffBytes (m : SniffMode) (d : List Byte) : Sniffed :=
  if d.length = 0 then .bad .frameError
  else
    match m.ipv with
    | .v4 => sniffV4 m d
    | .v6 => sniffV6 m d

/-- The mode in which the block sniffs now (R180). -/
def State.sniffMode (s : State) : SniffMode :=
  { ipv := s.build.ipv, csv := cfgCsv s.regs.cfg, icmp4ph := cfgIcmp4ph s.regs.cfg }

/-- `BUF[b].DATA[0..LEN)`. -/
def State.packet (s : State) (b : Handle) : List Byte := s.readBytes b 0 (s.buf b).len.toNat

/-- `Sniff(b)` (R180). -/
def State.sniff (s : State) (b : Handle) : Sniffed := sniffBytes s.sniffMode (s.packet b)

/-- RES1 of SNIFF for a packet: protocol number, H, n (R185). -/
def sniffWord (proto : Byte) (h n : Nat) : Word := BitVec.ofNat 16 n ++ BitVec.ofNat 8 h ++ proto

/-! ### Header generation -/

/-- `LEN <- n ; CHAN <- 0` (R200). -/
def State.setLength (s : State) (b : Handle) (n : Nat) : State :=
  s.setBuf b fun x => { x with len := BitVec.ofNat 16 n, chan := 0 }

/-- `BuildIP(b, p, n, dst)` (R200). -/
def State.buildIp (s : State) (b : Handle) (p : Byte) (n : Nat) (dst : List Byte) : State :=
  match s.build.ipv with
  | .v4 =>
    let t := s.writeBytes b 0 ([0x45, 0x00] ++ bytes16n (20 + n) ++
      [0x00, 0x00, 0x00, 0x00, cfgTtl s.regs.cfg, p, 0x00, 0x00] ++ s.hostBytes ++ dst)
    (t.writeBytes b 10 (bytes16 (csum (t.readBytes b 0 20)))).setLength b (20 + n)
  | .v6 =>
    (s.writeBytes b 0 ([0x60, 0x00, 0x00, 0x00] ++ bytes16n n ++ [p, cfgTtl s.regs.cfg] ++ s.hostBytes ++ dst)).setLength b
      (40 + n)

/-- `kind` of R203. -/
inductive L4Kind where
  | tcp
  | udp
  | icmp
  deriving DecidableEq, Repr

/-- `FillL4Csum(b, H, p, f, kind)` (R203). -/
def State.fillL4Csum (s : State) (b : Handle) (h : Nat) (p : Byte) (f : Nat) (kind : L4Kind) : State :=
  let t := s.writeBytes b (h + f) [0x00, 0x00]
  let d := t.packet b
  let ph :=
    if kind ≠ .icmp ∨ s.build.ipv = .v6 ∨ cfgIcmp4ph s.regs.cfg = true then packetPh s.build.ipv d h p else []
  let c := csum (ph ++ d.drop h)
  t.writeBytes b (h + f) (bytes16 (if kind = .udp then udpForm c else c))

/-- `BuildTCP(b, k, fl, P)` (R201). -/
def State.buildTcp (s : State) (b : Handle) (k : Nat) (fl : Byte) (payload : List Byte) : State :=
  let x := s.conn k
  let h := s.build.iph
  let t := s.buildIp b protoTcp (20 + payload.length) (addrBytes s.build.ipv x.raddr)
  let u := t.writeBytes b h (bytes16 x.lport ++ bytes16 x.rport ++ bytes32 x.sndSeq ++
    bytes32 (if hasFlag fl flAck then x.rcvAck else 0) ++ [0x50, fl] ++ bytes16 s.regs.tcpwin ++
    [0x00, 0x00] ++ [0x00, 0x00])
  (u.writeBytes b (h + 20) payload).fillL4Csum b h protoTcp 16 .tcp

/-- `BuildUDP(b, k, P)` (R202). -/
def State.buildUdp (s : State) (b : Handle) (k : Nat) (payload : List Byte) : State :=
  let x := s.conn k
  let h := s.build.iph
  let n := 8 + payload.length
  let t := s.buildIp b protoUdp n (addrBytes s.build.ipv x.raddr)
  let u := t.writeBytes b h (bytes16 x.lport ++ bytes16 x.rport ++ bytes16n n ++ [0x00, 0x00])
  (u.writeBytes b (h + 8) payload).fillL4Csum b h protoUdp 6 .udp

/-- The writes of PING_TO_PONG to a buffer whose echo request has its message at `h` (R186, C5). -/
def State.makePong (s : State) (b : Handle) (h : Nat) : State :=
  let ipv := s.build.ipv
  let old := s.readBytes b (srcOff ipv) s.build.alen
  let t := ((s.writeBytes b (dstOff ipv) old).writeBytes b (srcOff ipv) s.hostBytes).writeBytes b h [echoReplyType ipv]
  let u := t.fillL4Csum b h s.build.icmpProto 2 .icmp
  match ipv with
  | .v4 =>
    let w := u.writeBytes b 10 [0x00, 0x00]
    w.writeBytes b 10 (bytes16 (csum (w.readBytes b 0 h)))
  | .v6 => u

/-- The writes of BUILD_ECHO (R187). -/
def State.buildEcho (s : State) (b : Handle) (seq : Half) : State :=
  let h := s.build.iph
  let t := s.buildIp b s.build.icmpProto 12 s.argaddrBytes
  let u := t.writeBytes b h ([echoRequestType s.build.ipv, 0x00, 0x00, 0x00] ++ bytes16 s.arg0Low ++ bytes16 seq ++
    bytes32 s.regs.arg1)
  u.fillL4Csum b h s.build.icmpProto 2 .icmp

/-! ### Commands -/

/-- SNIFF (R185). -/
def execSniff (b : Handle) (s : State) : Answer :=
  if ¬ s.build.hasBuffer b then s.fail 0x30 .handle
  else
    match s.sniff b with
    | .packet code p h n => s.done 0x30 (sniffCode code) (sniffWord p h n)
    | .bad code => s.done 0x30 (sniffCode code) 0

/-- PING_TO_PONG (R186). -/
def execPingToPong (b : Handle) (s : State) : Answer :=
  if ¬ s.build.hasBuffer b then s.fail 0x31 .handle
  else if ¬ s.hostHeld b then s.fail 0x31 .busy
  else
    match s.sniff b with
    | .packet .echoRequest _ h _ => (s.makePong b h).done 0x31 1 0
    | _ => s.fail 0x31 .notEcho

/-- BUILD_ECHO (R187). -/
def execBuildEcho (b : Handle) (seq : Half) (s : State) : Answer :=
  if ¬ s.build.hasBuffer b then s.fail 0x32 .handle
  else if ¬ s.hostHeld b then s.fail 0x32 .busy
  else
    let t := s.buildEcho b seq
    t.done 0x32 (halfWord (t.buf b).len) 0

end Sys2Proof.Machine
end

