-- ==== Sys2Proof/Machine/Conn.lean ====
section
/-! DEFINITION. The connection state machine, its slots and the send side: configuration, queries, read and write, update and
timeout (44_connection.md R240 to R280). -/

namespace Sys2Proof.Machine

/-! ### Common definitions (R241 to R245) -/

/-- Drop one reference to buffer `b`, if it has any (R242). -/
def State.dropRef (s : State) (b : Handle) : State :=
  if (s.buf b).ref = 0 then s else s.setBuf b fun x => { x with ref := x.ref - 1 }

/-- `ReleaseRetx(k)` (R242). -/
def State.releaseRetx (s : State) (k : Nat) : State :=
  let b := (s.conn k).retx
  if b = NONE then s
  else
    let t := s.dropRef b
    let u := if (t.buf b).loc = .off then (t.release b).2 else t
    u.setConn k fun x => { x with retx := NONE }

/-- `ReleaseStaged(k)` (R243). -/
def State.releaseStaged (s : State) (k : Nat) : State :=
  let b := (s.conn k).staged
  if b = NONE then s
  else ((s.setLoc b .off).release b).2.setConn k fun x => { x with staged := NONE, soff := 0 }

/-- `ResetSlot(k)` (R241): every field but REG, PROTO and LPORT. -/
def State.resetSlot (s : State) (k : Nat) : State :=
  ((s.releaseStaged k).releaseRetx k).setConn k fun x =>
    { idleConn with reg := x.reg, proto := x.proto, lport := x.lport }

/-- `Send(b)` (R244). -/
def State.send (s : State) (b : Handle) : State := s.pushTail OUTBOUND b

/-- `MaxPay(k)` (R245). -/
def State.maxPay (s : State) (k : Nat) : Nat :=
  match (s.conn k).proto with
  | .tcp => s.build.maxpayTcp
  | .udp => s.build.maxpayUdp

/-! ### Slot configuration commands -/

/-- CONN_INIT (R246). -/
def execConnInit (k : Byte) (port : Half) (s : State) : Answer :=
  if ¬ s.build.hasSlot k then s.fail 0x50 .slot
  else
    ((s.resetSlot k.toNat).setConn k.toNat fun x =>
      { x with proto := protoOf (s.regs.arg0.getLsbD 0), lport := port }).done 0x50 0 0

/-- CONN_REG (R247). -/
def execConnReg (k : Byte) (r : Bool) (s : State) : Answer :=
  if ¬ s.build.hasSlot k then s.fail 0x51 .slot
  else (s.setConn k.toNat fun x => { x with reg := r }).done 0x51 0 0

/-- CONN_RESET (R248). -/
def execConnReset (k : Byte) (s : State) : Answer :=
  if ¬ s.build.hasSlot k then s.fail 0x52 .slot
  else (s.resetSlot k.toNat).done 0x52 0 0

/-- CONN_SETREMOTE (R249). -/
def execConnSetremote (k : Byte) (port : Half) (s : State) : Answer :=
  if ¬ s.build.hasSlot k then s.fail 0x53 .slot
  else if (s.conn k.toNat).state ≠ .closed then s.fail 0x53 .state
  else (s.setConn k.toNat fun x => { x with raddr := s.regs.argaddr, rport := port, rbound := true }).done 0x53 0 0

/-- CONN_OPEN (R250). -/
def execConnOpen (k : Byte) (s : State) : Answer :=
  if ¬ s.build.hasSlot k then s.fail 0x54 .slot
  else if (s.conn k.toNat).state ≠ .closed then s.fail 0x54 .state
  else if (s.conn k.toNat).lport = 0 then s.fail 0x54 .port
  else
    match (s.conn k.toNat).proto with
    | .udp =>
      (s.setConn k.toNat fun x => { x with state := .opened, events := x.events ||| evOpened }).done 0x54 4 0
    | .tcp =>
      (s.setConn k.toNat fun x =>
        { x with rbound := false, raddr := zeroAddr, rport := 0, sndSeq := s.regs.arg0, rcvAck := 0,
                 state := .listen }).done 0x54 1 0

/-- CONN_CONNECT (R251). -/
def execConnConnect (k : Byte) (port : Half) (s : State) : Answer :=
  if ¬ s.build.hasSlot k then s.fail 0x55 .slot
  else if (s.conn k.toNat).proto ≠ .tcp then s.fail 0x55 .state
  else if (s.conn k.toNat).state ≠ .closed then s.fail 0x55 .state
  else if (s.conn k.toNat).lport = 0 then s.fail 0x55 .port
  else
    (s.setConn k.toNat fun x =>
      { x with raddr := s.regs.argaddr, rport := port, rbound := true, sndSeq := s.regs.arg0, rcvAck := 0,
               state := .synSent, synDue := true, retxCnt := 0 }).done 0x55 2 0

/-- CONN_CLOSE (R252). -/
def execConnClose (k : Byte) (s : State) : Answer :=
  if ¬ s.build.hasSlot k then s.fail 0x56 .slot
  else
    let abandon : Answer :=
      ((s.releaseRetx k.toNat).setConn k.toNat fun x =>
        { x with synDue := false, synackDue := false, retxDue := false, ackDue := false, state := .closed,
                 events := x.events ||| evClosed }).done 0x56 1 0
    match (s.conn k.toNat).state with
    | .closed => s.done 0x56 0 0
    | .closing => s.done 0x56 0 0
    | .opened => (s.setConn k.toNat fun x => { x with state := .closing }).done 0x56 1 0
    | .listen => abandon
    | .synSent => abandon
    | .synRcvd => abandon

/-- CONN_LISTENER (R253). -/
def execConnListener (k : Byte) (v : Bool) (s : State) : Answer :=
  if ¬ s.build.hasSlot k then s.fail 0x5E .slot
  else (s.setConn k.toNat fun x => { x with listener := v }).done 0x5E 0 0

/-! ### Slot query commands -/

/-- CONN_STATUS (R254). -/
def execConnStatus (k : Byte) (s : State) : Answer :=
  if ¬ s.build.hasSlot k then s.fail 0x5C .slot
  else s.done 0x5C (connStatus0 (s.conn k.toNat)) (connStatus1 (s.conn k.toNat))

/-- CONN_EVENTS (R255). -/
def execConnEvents (k : Byte) (s : State) : Answer :=
  if ¬ s.build.hasSlot k then s.fail 0x5D .slot
  else (s.setConn k.toNat fun x => { x with events := 0 }).done 0x5D (0#28 ++ (s.conn k.toNat).events) 0

/-- CONN_TCPINFO (R256). -/
def execConnTcpinfo (k : Byte) (s : State) : Answer :=
  if ¬ s.build.hasSlot k then s.fail 0x5F .slot
  else s.done 0x5F (s.conn k.toNat).sndSeq (s.conn k.toNat).rcvAck

/-- CONN_GETREMOTE (R257), the only command that writes ARGADDR. -/
def execConnGetremote (k : Byte) (s : State) : Answer :=
  if ¬ s.build.hasSlot k then s.fail 0x60 .slot
  else
    let x := s.conn k.toNat
    (s.setArgaddr x.raddr).done 0x60 (x.lport ++ x.rport) (boolWord x.rbound)

/-! ### Stream data: read and write -/

/-- How many bytes `Refill(k)` moves: its loop ends when RFIFO is full or the staged buffer is used up (R260). -/
def State.refillCount (s : State) (k : Nat) : Nat :=
  let x := s.conn k
  min (s.build.fifoCap - x.rfifo.length) ((s.buf x.staged).len.toNat - x.soff.toNat)

/-- `Refill(k)` (R260). -/
def State.refill (s : State) (k : Nat) : State :=
  let x := s.conn k
  let b := x.staged
  if b = NONE then s
  else
    let m := s.refillCount k
    let t := s.setConn k fun y =>
      { y with rfifo := y.rfifo ++ s.readBytes b x.soff.toNat m, soff := y.soff + BitVec.ofNat 16 m }
    if (t.buf b).len.toNat ≤ (t.conn k).soff.toNat then t.releaseStaged k else t

/-- The loop of CONN_READ (R261): the bytes still wanted, and what has been read.  Each turn after the first follows a Refill that
moved a byte or released the staged buffer, so `fuel = n + 2` turns reach the exit (log entry 13). -/
def State.readLoop (k : Nat) : Nat → Nat → List Byte → State → List Byte × State
  | 0, _, out, s => (out, s)
  | fuel + 1, want, out, s =>
    let m := min want (s.conn k).rfifo.length
    let out' := out ++ (s.conn k).rfifo.take m
    let t := s.setConn k fun x => { x with rfifo := x.rfifo.drop m }
    if want - m = 0 ∨ (t.conn k).staged = NONE then (out', t)
    else State.readLoop k fuel (want - m) out' (t.refill k)

/-- CONN_READ (R261). -/
def execConnRead (k : Byte) (n : BitVec 3) (s : State) : Answer :=
  if ¬ s.build.hasSlot k then s.fail 0x5A .slot
  else if 4 < n.toNat then s.fail 0x5A .range
  else
    let r := State.readLoop k.toNat (n.toNat + 2) n.toNat [] s
    r.2.done 0x5A (leftAligned r.1) (natWord r.1.length)

/-- `SendData(k, b, P)` (R263). -/
def State.sendData (s : State) (k : Nat) (b : Handle) (payload : List Byte) : State :=
  match (s.conn k).proto with
  | .tcp =>
    ((s.buildTcp b k (flAck ||| flPsh) payload).setConn k fun x =>
      { x with sndSeq := x.sndSeq + BitVec.ofNat 32 payload.length, ackDue := false }).send b
  | .udp => (s.buildUdp b k payload).send b

/-- CONN_WRITE on a slot that takes the bytes `d` (R262). -/
def State.connWrite (k : Nat) (d : List Byte) (s : State) : Answer :=
  let n := d.length
  let n1 := min n (s.build.fifoCap - (s.conn k).wfifo.length)
  let t := s.setConn k fun x => { x with wfifo := x.wfifo ++ d.take n1 }
  if n - n1 = 0 then t.done 0x5B (natWord n) 0
  else
    let r := t.takeSpare
    if r.1 = NONE then t.done 0x5B (natWord n1) 0
    else
      let more := min (n - n1) (t.maxPay k - (t.conn k).wfifo.length)
      let payload := (t.conn k).wfifo ++ (d.drop n1).take more
      ((r.2.setConn k fun x => { x with wfifo := [] }).sendData k r.1 payload).done 0x5B (natWord (n1 + more)) 0

/-- CONN_WRITE (R262). -/
def execConnWrite (k : Byte) (n : BitVec 3) (s : State) : Answer :=
  if ¬ s.build.hasSlot k then s.fail 0x5B .slot
  else if 4 < n.toNat then s.fail 0x5B .range
  else
    let x := s.conn k.toNat
    if x.state ≠ .opened ∨ (x.proto = .udp ∧ x.rbound = false) then s.done 0x5B 0 0
    else State.connWrite k.toNat (s.arg0Bytes n.toNat) s

/-! ### Update: the send side -/

/-- `Handshake(k, fl)` (R272). -/
def State.handshake (s : State) (k : Nat) (fl : Byte) : State :=
  let r := s.takeSpare
  let b := r.1
  if b = NONE then s
  else
    let t := (r.2.buildTcp b k fl []).setBuf b fun x => { x with ref := x.ref + 1 }
    ((t.setConn k fun x => { x with retx := b }).send b).setConn k fun x =>
      { x with retxCnt := 1, synDue := false, synackDue := false }

/-- `Retransmit(k)` (R273). -/
def State.retransmit (s : State) (k : Nat) : State :=
  let b := (s.conn k).retx
  if b = NONE then s.setConn k fun x => { x with retxDue := false }
  else if (s.buf b).loc = .off then
    (s.send b).setConn k fun x => { x with retxCnt := x.retxCnt + 1, retxDue := false }
  else s

/-- `BareAck(k)` (R274). -/
def State.bareAck (s : State) (k : Nat) : State :=
  let r := s.takeSpare
  if r.1 = NONE then s
  else ((r.2.buildTcp r.1 k flAck []).send r.1).setConn k fun x => { x with ackDue := false }

/-- Take a spare and send what WFIFO holds in it, up to MaxPay (steps 2d and 3 of R271). -/
def State.drainWfifo (s : State) (k : Nat) : State :=
  let r := s.takeSpare
  if r.1 = NONE then s
  else
    let m := min (s.conn k).wfifo.length (s.maxPay k)
    (r.2.setConn k fun x => { x with wfifo := x.wfifo.drop m }).sendData k r.1 ((s.conn k).wfifo.take m)

/-- Step 2 of R271: the first case that matches acts. -/
def State.updateTcp (s : State) (k : Nat) : State :=
  let x := s.conn k
  if x.state = .synSent ∧ x.synDue = true then s.handshake k flSyn
  else if x.state = .synRcvd ∧ x.synackDue = true then s.handshake k (flSyn ||| flAck)
  else if (x.state = .synSent ∨ x.state = .synRcvd) ∧ x.retxDue = true then s.retransmit k
  else if (x.state = .opened ∨ x.state = .closing) ∧ x.wfifo ≠ [] then s.drainWfifo k
  else if x.ackDue = true ∧ (x.state = .synRcvd ∨ x.state = .opened ∨ x.state = .closing) then s.bareAck k
  else s

/-- Step 3 of R271. -/
def State.updateUdp (s : State) (k : Nat) : State :=
  let x := s.conn k
  if (x.state = .opened ∨ x.state = .closing) ∧ x.wfifo ≠ [] ∧ x.rbound = true then s.drainWfifo k else s

/-- Step 4 of R271 (R275). -/
def State.updateClosing (s : State) (k : Nat) : State :=
  let x := s.conn k
  if x.state = .closing ∧ x.wfifo = [] then
    s.setConn k fun y => { y with state := .closed, events := y.events ||| evClosed }
  else s

/-- `UpdateSlot(k)` (R271). -/
def State.updateSlot (s : State) (k : Nat) : State :=
  let t := s.refill k
  let u :=
    match (t.conn k).proto with
    | .tcp => t.updateTcp k
    | .udp => t.updateUdp k
  u.updateClosing k

/-- Update every registered slot of `ks` in order (R270). -/
def State.updateAll (s : State) : List Nat → State
  | [] => s
  | k :: ks => State.updateAll (if (s.conn k).reg then s.updateSlot k else s) ks

/-- CONN_UPDATE (R270). -/
def execConnUpdate (k : Byte) (s : State) : Answer :=
  if k = 0xFF#8 then (s.updateAll (List.range s.build.nconn)).done 0x57 0 0
  else if ¬ s.build.hasSlot k then s.fail 0x57 .slot
  else (s.updateSlot k.toNat).done 0x57 0 0

/-- CONN_TIMEOUT (R280). -/
def execConnTimeout (k : Byte) (s : State) : Answer :=
  if ¬ s.build.hasSlot k then s.fail 0x58 .slot
  else
    let x := s.conn k.toNat
    if x.proto = .tcp ∧ (x.state = .synSent ∨ x.state = .synRcvd) ∧ x.retx ≠ NONE then
      if x.retxCnt.toNat < (cfgMaxatt s.regs.cfg).toNat then
        (s.setConn k.toNat fun y => { y with retxDue := true }).done 0x58 1 0
      else (s.raiseEvent k.toNat evGaveup).done 0x58 0 0
    else s.done 0x58 0 0

end Sys2Proof.Machine
end

