-- ==== Sys2Proof/Machine/Accept.lean ====
section
/-! DEFINITION. The receive side of the connection state machine: CONN_ACCEPT (44_connection.md R290 to R299). -/

namespace Sys2Proof.Machine

/-- How a slot claims a buffer (R290); a slot that answers REJECT claims nothing and changes nothing. -/
inductive Claim where
  | staged
  | deliver
  | consumed
  | dropped
  deriving DecidableEq, Repr

/-- The result codes of R290 but for REJECT, which is 0. -/
def claimCode : Claim → Word
  | .staged => 1
  | .deliver => 2
  | .consumed => 3
  | .dropped => 4

/-- The fields of a TCP segment that the claim reads (R293). -/
structure Segment where
  seq : Word
  ackn : Word
  fl : Byte
  poff : Nat
  plen : Nat
  deriving DecidableEq, Repr

/-- The fields of the segment at `h` of buffer `b`, a transport message of `n` bytes (R293). -/
def State.segment (s : State) (b : Handle) (h n : Nat) : Segment :=
  let d := s.readBytes b h 14
  let dataOff := (byteAt d 12).toNat / 16
  { seq := be32At d 4, ackn := be32At d 8, fl := byteAt d 13, poff := h + dataOff * 4, plen := n - dataOff * 4 }

/-- `Deliver(k, b, poff, plen)` (R298). -/
def State.deliver (s : State) (k : Nat) (b : Handle) (poff plen : Nat) : Claim × State :=
  let x := s.conn k
  if x.listener then (.deliver, s.raiseEvent k evData)
  else if plen = 0 then (.consumed, s)
  else if x.staged ≠ NONE then (.dropped, s)
  else
    (.staged, (s.setConn k fun y => { y with staged := b, soff := BitVec.ofNat 16 poff, events := y.events ||| evData }).setLoc
      b .hold)

/-- Set `ACK_DUE` and drop the segment (R295, R296). -/
def State.dropWithAck (s : State) (k : Nat) : Claim × State :=
  (.dropped, s.setConn k fun x => { x with ackDue := true })

/-- `TcpOpenRx` (R296). -/
def State.tcpOpenRx (s : State) (k : Nat) (b : Handle) (g : Segment) : Claim × State :=
  let x := s.conn k
  if hasFlag g.fl (flSyn ||| flRst) then s.dropWithAck k
  else if g.seq ≠ x.rcvAck then s.dropWithAck k
  else if g.plen = 0 then (.consumed, s)
  else if x.listener = false ∧ x.staged ≠ NONE then (.dropped, s)
  else
    (s.setConn k fun y => { y with rcvAck := y.rcvAck + BitVec.ofNat 32 g.plen, ackDue := true }).deliver k b g.poff g.plen

/-- `ReleaseRetx(k)` (R242) while CONN_ACCEPT offers buffer `b` to slot `k`.  Where `b` is the slot's own retransmit buffer, only the
reference is dropped: `b` stays host-held until the claim decides where it goes, by R298 or by the Release of R290.  Releasing it
here as well would put it on SPARE before that, and R33 and R141 would not hold after the command.  DESIGN CHOICE (unsafe): log
entry 11. -/
def State.releaseRetxOffered (s : State) (k : Nat) (b : Handle) : State :=
  if (s.conn k).retx = b then (s.dropRef b).setConn k fun x => { x with retx := NONE } else s.releaseRetx k

/-- `ClaimTCP` in LISTEN, unbound: a bare SYN binds the slot (R293). -/
def State.claimSyn (s : State) (k : Nat) (src : List Byte) (sport : Half) (g : Segment) : Claim × State :=
  (.consumed, s.setConn k fun x =>
    { x with raddr := addrOfBytes src, rport := sport, rbound := true, rcvAck := g.seq + 1, state := .synRcvd,
             synackDue := true, retxCnt := 0 })

/-- `ClaimTCP` in SYN_SENT (R294). -/
def State.claimSynSent (s : State) (k : Nat) (b : Handle) (g : Segment) : Claim × State :=
  let x := s.conn k
  if hasFlag g.fl flSyn = true ∧ hasFlag g.fl flAck = true ∧ hasFlag g.fl flRst = false ∧ g.ackn = x.sndSeq + 1 then
    let t := (s.setConn k fun y => { y with rcvAck := g.seq + 1, sndSeq := y.sndSeq + 1 }).releaseRetxOffered k b
    (.consumed, t.setConn k fun y =>
      { y with synDue := false, retxDue := false, state := .opened, ackDue := true, events := y.events ||| evOpened })
  else (.dropped, s)

/-- `ClaimTCP` in SYN_RCVD (R295). -/
def State.claimSynRcvd (s : State) (k : Nat) (b : Handle) (g : Segment) : Claim × State :=
  let x := s.conn k
  if hasFlag g.fl flAck = true ∧ hasFlag g.fl (flSyn ||| flRst) = false ∧ g.ackn = x.sndSeq + 1 then
    let t := (s.setConn k fun y => { y with sndSeq := y.sndSeq + 1 }).releaseRetxOffered k b
    let u := t.setConn k fun y =>
      { y with synackDue := false, retxDue := false, state := .opened, events := y.events ||| evOpened }
    u.tcpOpenRx k b g
  else s.dropWithAck k

/-- `ClaimTCP` (R293 to R297); `none` is REJECT.  A bound slot is never in LISTEN or, here, in CLOSED: no rule claims the
buffer for one, so it is not claimed (log entry 9). -/
def State.claimTcp (s : State) (k : Nat) (b : Handle) (src : List Byte) (sport : Half) (g : Segment) :
    Option (Claim × State) :=
  let x := s.conn k
  if x.rbound = false then
    if x.state = .listen ∧ bareSyn g.fl = true then some (s.claimSyn k src sport g) else none
  else
    match x.state with
    | .synSent => some (s.claimSynSent k b g)
    | .synRcvd => some (s.claimSynRcvd k b g)
    | .opened => some (s.tcpOpenRx k b g)
    | .closing => some (.dropped, s)
    | .closed => none
    | .listen => none

/-- `ClaimUDP` (R292). -/
def State.claimUdp (s : State) (k : Nat) (b : Handle) (h n : Nat) : Claim × State :=
  if (s.conn k).state = .closing then (.dropped, s) else s.deliver k b (h + 8) (n - 8)

/-- The protocol a sniffed packet belongs to (R291). -/
def claimProto (p : Byte) : Proto := if p = protoTcp then .tcp else .udp

/-- `Claim(k, b, p, H, n)` (R291); `none` is REJECT. -/
def State.claim (s : State) (k : Nat) (b : Handle) (p : Byte) (h n : Nat) : Option (Claim × State) :=
  let x := s.conn k
  let ports := s.readBytes b h 4
  let sport := be16At ports 0
  let dport := be16At ports 2
  let src := s.readBytes b (srcOff s.build.ipv) s.build.alen
  if x.proto ≠ claimProto p then none
  else if dport ≠ x.lport ∨ x.state = .closed then none
  else if x.rbound = true ∧ (src ≠ addrBytes s.build.ipv x.raddr ∨ sport ≠ x.rport) then none
  else
    match x.proto with
    | .udp => some (s.claimUdp k b h n)
    | .tcp => s.claimTcp k b src sport (s.segment b h n)

/-- Offer the buffer to the registered slots of `ks` in order; the first that claims it has it (R290). -/
def State.offer (s : State) (b : Handle) (p : Byte) (h n : Nat) : List Nat → Option (Nat × Claim × State)
  | [] => none
  | k :: ks =>
    if (s.conn k).reg then
      match s.claim k b p h n with
      | some r => some (k, r)
      | none => s.offer b p h n ks
    else s.offer b p h n ks

/-- What CONN_ACCEPT does with a claimed buffer: a consumed or dropped one is released (R290). -/
def State.settle (b : Handle) : Nat × Claim × State → Answer
  | (k, .staged, t) => t.done 0x59 (claimCode .staged) (natWord k)
  | (k, .deliver, t) => t.done 0x59 (claimCode .deliver) (natWord k)
  | (k, .consumed, t) => (t.release b).2.done 0x59 (claimCode .consumed) (natWord k)
  | (k, .dropped, t) => (t.release b).2.done 0x59 (claimCode .dropped) (natWord k)

/-- CONN_ACCEPT (R290). -/
def execConnAccept (b : Handle) (s : State) : Answer :=
  if ¬ s.build.hasBuffer b then s.fail 0x59 .handle
  else if ¬ s.hostHeld b then s.fail 0x59 .busy
  else
    match s.sniff b with
    | .packet .okay p h n =>
      match s.offer b p h n (List.range s.build.nconn) with
      | some r => State.settle b r
      | none => s.done 0x59 0 0
    | _ => s.done 0x59 0 0

end Sys2Proof.Machine
end

