-- ==== Sys2Proof/Machine/Pool.lean ====
section
/-! DEFINITION. The buffer pool unit: GET_SPARE to CHAIN_NEXT and BUF_RD8 to BUF_SETCHAN (40_pool.md R120 to R140).  Each meaning
makes its checks in the order its rule lists them (R322) and then has its effect. -/

namespace Sys2Proof.Machine

/-! ### Pool commands -/

/-- GET_SPARE (R120). -/
def execGetSpare (s : State) : Answer :=
  let r := s.takeSpare
  r.2.done 0x01 (handleWord r.1) 0

/-- ADD_SPARE (R121). -/
def execAddSpare (b : Handle) (s : State) : Answer :=
  if ¬ s.build.hasBuffer b then s.fail 0x02 .handle
  else if ¬ s.hostHeld b then s.fail 0x02 .busy
  else
    let r := s.release b
    r.2.done 0x02 (boolWord r.1) 0

/-- QUEUE (R122). -/
def execQueue (b : Handle) (s : State) : Answer :=
  if ¬ s.build.hasBuffer b then s.fail 0x03 .handle
  else if ¬ s.hostHeld b then s.fail 0x03 .busy
  else
    let r := s.takeSpare
    if r.1 = NONE then s.done 0x03 (handleWord NONE) 0
    else (r.2.pushTail PENDING b).done 0x03 (handleWord r.1) 0

/-- REF (R123). -/
def execRef (b : Handle) (s : State) : Answer :=
  if ¬ s.build.hasBuffer b then s.fail 0x04 .handle
  else if (s.buf b).loc = .chain SPARE then s.fail 0x04 .busy
  else if (s.buf b).ref = 255 then s.fail 0x04 .refcnt
  else
    let t := s.setBuf b fun x => { x with ref := x.ref + 1 }
    t.done 0x04 (byteWord (t.buf b).ref) 0

/-- UNREF (R124). -/
def execUnref (b : Handle) (s : State) : Answer :=
  if ¬ s.build.hasBuffer b then s.fail 0x05 .handle
  else if (s.buf b).ref = 0 then s.fail 0x05 .refcnt
  else
    let t := s.setBuf b fun x => { x with ref := x.ref - 1 }
    t.done 0x05 (byteWord (t.buf b).ref) 0

/-- RETAINED (R125). -/
def execRetained (b : Handle) (s : State) : Answer :=
  if ¬ s.build.hasBuffer b then s.fail 0x06 .handle
  else s.done 0x06 (boolWord ((s.buf b).ref != 0)) 0

/-- BUF_INFO (R126). -/
def execBufInfo (b : Handle) (s : State) : Answer :=
  if ¬ s.build.hasBuffer b then s.fail 0x07 .handle
  else s.done 0x07 (bufInfo0 (s.buf b)) (bufInfo1 (s.buf b))

/-! ### Chain commands -/

/-- CHAIN_PUSH (R127). -/
def execChainPush (c : Byte) (b : Handle) (urgent : Bool) (s : State) : Answer :=
  if ¬ s.build.hasChain c ∨ c.toNat = SPARE then s.fail 0x08 .chain
  else if ¬ s.build.hasBuffer b then s.fail 0x08 .handle
  else if ¬ s.hostHeld b then s.fail 0x08 .busy
  else
    let t := if urgent then s.pushHead c.toNat b else s.pushTail c.toNat b
    t.done 0x08 (byteWord (t.chain c.toNat).count) 0

/-- CHAIN_POP (R128). -/
def execChainPop (c : Byte) (s : State) : Answer :=
  if ¬ s.build.hasChain c ∨ c.toNat = SPARE then s.fail 0x09 .chain
  else
    let r := s.popHead c.toNat
    r.2.done 0x09 (handleWord r.1) 0

/-- CHAIN_PEEK (R129). -/
def execChainPeek (c : Byte) (s : State) : Answer :=
  if ¬ s.build.hasChain c then s.fail 0x0A .chain
  else s.done 0x0A (handleWord (s.chain c.toNat).head) (byteWord (s.chain c.toNat).count)

/-- CHAIN_REMOVE (R130).  The fault stands for a walk that R113 says cannot happen (log entry 7). -/
def execChainRemove (c : Byte) (b : Handle) (s : State) : Answer :=
  if ¬ s.build.hasChain c ∨ c.toNat = SPARE then s.fail 0x0B .chain
  else if ¬ s.build.hasBuffer b then s.fail 0x0B .handle
  else if (s.buf b).loc ≠ .chain c.toNat then s.fail 0x0B .notMember
  else
    match s.remove c.toNat b with
    | none => .fault .chainWalkLost
    | some t => t.done 0x0B 1 0

/-- CHAIN_COUNT (R131). -/
def execChainCount (c : Byte) (s : State) : Answer :=
  if ¬ s.build.hasChain c then s.fail 0x0C .chain
  else s.done 0x0C (byteWord (s.chain c.toNat).count) 0

/-- CHAIN_NEXT (R132). -/
def execChainNext (b : Handle) (s : State) : Answer :=
  if ¬ s.build.hasBuffer b then s.fail 0x0D .handle
  else s.done 0x0D (handleWord (s.buf b).next) 0

/-! ### Buffer data commands -/

/-- A read of `n` bytes (R133): the handle, then the range, and MemRead. -/
def bufRead (op : Byte) (n : Nat) (b : Handle) (o : Half) (s : State) : Answer :=
  if ¬ s.build.hasBuffer b then s.fail op .handle
  else if ¬ s.build.inData o.toNat n then s.fail op .range
  else s.done op (s.memRead b o.toNat n) 0

/-- A write of the low `n` bytes of ARG0 (R136): the handle, the range, then LOC, and MemWrite. -/
def bufWrite (op : Byte) (n : Nat) (b : Handle) (o : Half) (s : State) : Answer :=
  if ¬ s.build.hasBuffer b then s.fail op .handle
  else if ¬ s.build.inData o.toNat n then s.fail op .range
  else if ¬ s.hostHeld b then s.fail op .busy
  else (s.memWrite b o.toNat n s.regs.arg0).done op 0 0

/-- BUF_RD8 (R133). -/
def execBufRd8 (b : Handle) (o : Half) (s : State) : Answer := bufRead 0x10 1 b o s

/-- BUF_RD16 (R134). -/
def execBufRd16 (b : Handle) (o : Half) (s : State) : Answer := bufRead 0x11 2 b o s

/-- BUF_RD32 (R135). -/
def execBufRd32 (b : Handle) (o : Half) (s : State) : Answer := bufRead 0x12 4 b o s

/-- BUF_WR8 (R136). -/
def execBufWr8 (b : Handle) (o : Half) (s : State) : Answer := bufWrite 0x13 1 b o s

/-- BUF_WR16 (R137). -/
def execBufWr16 (b : Handle) (o : Half) (s : State) : Answer := bufWrite 0x14 2 b o s

/-- BUF_WR32 (R138). -/
def execBufWr32 (b : Handle) (o : Half) (s : State) : Answer := bufWrite 0x15 4 b o s

/-- BUF_SETLEN (R139). -/
def execBufSetlen (b : Handle) (v : Half) (s : State) : Answer :=
  if ¬ s.build.hasBuffer b then s.fail 0x16 .handle
  else if s.build.bufCap < v.toNat then s.fail 0x16 .range
  else if ¬ s.hostHeld b then s.fail 0x16 .busy
  else (s.setBuf b fun x => { x with len := v }).done 0x16 0 0

/-- BUF_SETCHAN (R140). -/
def execBufSetchan (b : Handle) (v : BitVec 4) (s : State) : Answer :=
  if ¬ s.build.hasBuffer b then s.fail 0x17 .handle
  else if ¬ s.hostHeld b then s.fail 0x17 .busy
  else (s.setBuf b fun x => { x with chan := v }).done 0x17 0 0

end Sys2Proof.Machine
end

