-- ==== Sys2Proof/Machine/Slip.lean ====
section
/-! DEFINITION. The SLIP byte framer: SLIP_RX, SLIP_TX and SLIP_STATE (43_slip.md R220 to R228). -/

namespace Sys2Proof.Machine

/-! ### Receive (R221 to R224) -/

/-- An END with a receive buffer (R221): drop an empty, escaped or overflowed frame and keep the buffer; otherwise queue the
frame on PENDING and take a fresh spare, or stall without one (R222). -/
def slipRxEnd (c : Byte) (b : Handle) (s : State) : Answer :=
  let x := s.slip c.toNat
  if x.rxovf = true ∨ x.rxesc = true ∨ (s.buf b).len = 0 then
    let t := (s.setBuf b fun y => { y with len := 0 }).setSlip c.toNat fun y => { y with rxovf := false, rxesc := false }
    t.done 0x40 0 (if x.rxovf = true ∨ x.rxesc = true then 2 else 0)
  else
    let r := s.takeSpare
    if r.1 = NONE then s.done 0x40 1 0
    else
      let t := r.2.setBuf b fun y => { y with chan := c.setWidth 4, loc := .off }
      let u := (t.pushTail PENDING b).setSlip c.toNat fun y => { y with rxbuf := r.1 }
      (u.setLoc r.1 .hold).done 0x40 0 1

/-- Store a decoded data byte in the receive buffer, or note the overflow (R221, R224). -/
def slipStore (c : Byte) (b : Handle) (y : Byte) (s : State) : State :=
  if (s.buf b).len.toNat = s.build.bufCap then s.setSlip c.toNat fun z => { z with rxovf := true }
  else (s.writeBytes b (s.buf b).len.toNat [y]).setBuf b fun z => { z with len := z.len + 1 }

/-- A byte other than END with receive buffer `b`: escape decoding (R223), then the store. -/
def slipRxByte (c : Byte) (b : Handle) (x : Byte) (s : State) : Answer :=
  if (s.slip c.toNat).rxesc then
    let t := s.setSlip c.toNat fun z => { z with rxesc := false }
    (slipStore c b (if x = slipEscEnd then slipEnd else if x = slipEscEsc then slipEsc else x) t).done 0x40 0 0
  else if x = slipEsc then (s.setSlip c.toNat fun z => { z with rxesc := true }).done 0x40 0 0
  else (slipStore c b x s).done 0x40 0 0

/-- SLIP_RX (R221). -/
def execSlipRx (c : Byte) (x : Byte) (s : State) : Answer :=
  if ¬ s.build.hasChannel c then s.fail 0x40 .slot
  else
    let b := (s.slip c.toNat).rxbuf
    if x = slipEnd then
      if b = NONE then (s.setSlip c.toNat fun z => { z with rxesc := false, rxovf := false }).done 0x40 0 0
      else slipRxEnd c b s
    else if b = NONE then
      let r := s.takeSpare
      if r.1 = NONE then s.done 0x40 1 0
      else slipRxByte c r.1 x ((r.2.setSlip c.toNat fun z => { z with rxbuf := r.1 }).setLoc r.1 .hold)
    else slipRxByte c b x s

/-! ### Transmit (R225 to R227) -/

/-- The word of a byte to send: bit 8 set (R225). -/
def slipOut (x : Byte) : Word := 0#23 ++ 1#1 ++ x

/-- The word of the final END of a frame: bits 9 and 8 set (R225). -/
def slipLast : Word := 0#22 ++ 3#2 ++ slipEnd

/-- The step of R225 in phase DATA, where buffer `b` is TXCUR. -/
def slipTxData (c : Byte) (b : Handle) (s : State) : Answer :=
  let pos := (s.slip c.toNat).txpos
  if pos = (s.buf b).len then
    let t := (s.setSlip c.toNat fun z => { z with txcur := NONE, txpos := 0, txph := .idle }).setLoc b .off
    (t.release b).2.done 0x41 slipLast 0
  else
    let x := s.readByte b pos.toNat
    if x = slipEnd then (s.setSlip c.toNat fun z => { z with txph := .escDc }).done 0x41 (slipOut slipEsc) 0
    else if x = slipEsc then (s.setSlip c.toNat fun z => { z with txph := .escDd }).done 0x41 (slipOut slipEsc) 0
    else (s.setSlip c.toNat fun z => { z with txpos := z.txpos + 1 }).done 0x41 (slipOut x) 0

/-- The step of R225 with a buffer in TXCUR.  The fault stands for a phase the rule has no case for (log entry 8). -/
def slipTxStep (c : Byte) (s : State) : Answer :=
  let x := s.slip c.toNat
  match x.txph with
  | .lead => (s.setSlip c.toNat fun z => { z with txph := .data }).done 0x41 (slipOut slipEnd) 0
  | .escDc => (s.setSlip c.toNat fun z => { z with txpos := z.txpos + 1, txph := .data }).done 0x41 (slipOut slipEscEnd) 0
  | .escDd => (s.setSlip c.toNat fun z => { z with txpos := z.txpos + 1, txph := .data }).done 0x41 (slipOut slipEscEsc) 0
  | .data => slipTxData c x.txcur s
  | .idle => .fault .slipPhaseLost

/-- SLIP_TX (R225). -/
def execSlipTx (c : Byte) (s : State) : Answer :=
  if ¬ s.build.hasChannel c then s.fail 0x41 .slot
  else if (s.slip c.toNat).txcur = NONE then
    let r := s.popHead (txChain c.toNat)
    if r.1 = NONE then s.done 0x41 0 0
    else
      slipTxStep c ((r.2.setSlip c.toNat fun z =>
        { z with txcur := r.1, txpos := 0, txph := if cfgLead s.regs.cfg then .lead else .data }).setLoc r.1 .hold)
  else slipTxStep c s

/-- SLIP_STATE (R228). -/
def execSlipState (c : Byte) (s : State) : Answer :=
  if ¬ s.build.hasChannel c then s.fail 0x42 .slot
  else s.done 0x42 (slipStateWord (s.slip c.toNat)) (halfWord (s.slip c.toNat).txpos)

end Sys2Proof.Machine
end

