-- ==== Sys2Proof/Machine/System.lean ====
section
/-! DEFINITION. NOP (60_exceptions.md R330) and SOFT_RESET (70_reset_and_hazards.md R341), and what the host does to the block
besides writing CMD: register reads and writes (10_state.md R21 to R29, 20_memory.md R80) and the reset input (R340). -/

namespace Sys2Proof.Machine

/-- NOP (R330). -/
def execNop (s : State) : Answer := s.done 0x00 0 0

/-- Every element of R340 but the data at its reset value; the data bytes and the model's own fields stay (R341). -/
def State.softReset (s : State) : State :=
  let r := State.resetOf s.build
  { s with regs := r.regs, csa := r.csa, bufs := r.bufs, chains := r.chains, slf := r.slf, conns := r.conns }

/-- SOFT_RESET (R341): its own status is written last. -/
def execSoftReset (s : State) : Answer := s.softReset.done 0x7F 0 0

/-- The reset input (R340): every element at its reset value; every data byte becomes a fresh free value (log entry 16). -/
def State.hardReset (s : State) : State := { s.softReset with mem := [], draw := s.draw + 1 }

/-! ### The host window (R21) -/

/-- A word of HOSTADDR or ARGADDR that an IPv4 build does not have reads 0 (R25, R26). -/
def v6Word (ipv : IPVersion) (w : Word) : Word :=
  match ipv with
  | .v4 => 0
  | .v6 => w

/-- What a read of the register at `offset` returns (R21 to R29, R34).  A read changes nothing (R74). -/
def State.regRead (s : State) (offset : Nat) : Word :=
  match offset with
  | 0x00 => caps0Word s.build
  | 0x04 => caps1Word s.build
  | 0x08 => s.regs.cfg.setWidth 32
  | 0x0C => halfWord s.regs.tcpwin
  | 0x10 => s.regs.hostaddr.w0
  | 0x14 => v6Word s.build.ipv s.regs.hostaddr.w1
  | 0x18 => v6Word s.build.ipv s.regs.hostaddr.w2
  | 0x1C => v6Word s.build.ipv s.regs.hostaddr.w3
  | 0x20 => s.regs.argaddr.w0
  | 0x24 => v6Word s.build.ipv s.regs.argaddr.w1
  | 0x28 => v6Word s.build.ipv s.regs.argaddr.w2
  | 0x2C => v6Word s.build.ipv s.regs.argaddr.w3
  | 0x30 => s.regs.arg0
  | 0x34 => s.regs.arg1
  | 0x3C => statusWord s.regs
  | 0x40 => s.regs.res0
  | 0x44 => s.regs.res1
  | 0x48 => s.csa.acc
  | 0x4C => csstatWord s.csa
  | _ => 0

/-- Replace the host registers. -/
def State.setRegs (s : State) (r : HostRegs) : State := { s with regs := r }

/-- Replace HOSTADDR. -/
def State.setHostaddr (s : State) (a : AddrWords) : State := s.setRegs { s.regs with hostaddr := a }

/-- The effect of a write of `v` to word `i` of an address register: an IPv4 build has word 0 only (R25, R26). -/
def writeAddr (ipv : IPVersion) (a : AddrWords) (i : Nat) (v : Word) : AddrWords :=
  match i, ipv with
  | 0, _ => { a with w0 := v }
  | 1, .v6 => { a with w1 := v }
  | 2, .v6 => { a with w2 := v }
  | 3, .v6 => { a with w3 := v }
  | _, _ => a

/-- A host write to a register other than CMD: a read-only or reserved register ignores it, and so does a reserved bit
(R21 to R27). -/
def State.regWrite (s : State) (offset : Nat) (v : Word) : State :=
  match offset with
  | 0x08 => s.setRegs { s.regs with cfg := v.setWidth 15 }
  | 0x0C => s.setRegs { s.regs with tcpwin := v.setWidth 16 }
  | 0x10 => s.setHostaddr (writeAddr s.build.ipv s.regs.hostaddr 0 v)
  | 0x14 => s.setHostaddr (writeAddr s.build.ipv s.regs.hostaddr 1 v)
  | 0x18 => s.setHostaddr (writeAddr s.build.ipv s.regs.hostaddr 2 v)
  | 0x1C => s.setHostaddr (writeAddr s.build.ipv s.regs.hostaddr 3 v)
  | 0x20 => s.setArgaddr (writeAddr s.build.ipv s.regs.argaddr 0 v)
  | 0x24 => s.setArgaddr (writeAddr s.build.ipv s.regs.argaddr 1 v)
  | 0x28 => s.setArgaddr (writeAddr s.build.ipv s.regs.argaddr 2 v)
  | 0x2C => s.setArgaddr (writeAddr s.build.ipv s.regs.argaddr 3 v)
  | 0x30 => s.setRegs { s.regs with arg0 := v }
  | 0x34 => s.setRegs { s.regs with arg1 := v }
  | _ => s

/-- The offset of CMD (R21). -/
abbrev cmdOffset : Nat := 0x38

/-- Whether the block defines a host access (R70, R80): `none` where it does, else how the step stops. -/
def accessStop (offset width : Nat) : Option Answer :=
  if 0x100 ≤ offset then some (.fault .noSuchRegister)
  else if width ≠ 32 ∨ offset % 4 ≠ 0 then some (.refused .undefinedAccess)
  else none

/-- A host read of a register: its value goes to the host (R74). -/
def State.hostRead (s : State) (offset : Nat) : State := { s with readData := some (s.regRead offset) }

/-- A command word whose opcode is not assigned (R96). -/
def State.illegalCommand (s : State) (op : Byte) : Answer := s.fail op .illegal

end Sys2Proof.Machine
end

