-- ==== Sys2Proof/Machine/Dispatch.lean ====
section
/-! DEFINITION. The meaning of every command: one arm per constructor of Instr, each a call of that command's own meaning. -/

namespace Sys2Proof.Machine

/-- The effect of one command on the state (R28, R95). -/
def exec (i : Instr) (s : State) : Host.Outcome State Fault Refusal :=
  match i with
  | .nop => Sys2Proof.Machine.execNop s
  | .getSpare => Sys2Proof.Machine.execGetSpare s
  | .addSpare b => Sys2Proof.Machine.execAddSpare b s
  | .queue b => Sys2Proof.Machine.execQueue b s
  | .ref b => Sys2Proof.Machine.execRef b s
  | .unref b => Sys2Proof.Machine.execUnref b s
  | .retained b => Sys2Proof.Machine.execRetained b s
  | .bufInfo b => Sys2Proof.Machine.execBufInfo b s
  | .chainPush c b urgent => Sys2Proof.Machine.execChainPush c b urgent s
  | .chainPop c => Sys2Proof.Machine.execChainPop c s
  | .chainPeek c => Sys2Proof.Machine.execChainPeek c s
  | .chainRemove c b => Sys2Proof.Machine.execChainRemove c b s
  | .chainCount c => Sys2Proof.Machine.execChainCount c s
  | .chainNext b => Sys2Proof.Machine.execChainNext b s
  | .bufRd8 b o => Sys2Proof.Machine.execBufRd8 b o s
  | .bufRd16 b o => Sys2Proof.Machine.execBufRd16 b o s
  | .bufRd32 b o => Sys2Proof.Machine.execBufRd32 b o s
  | .bufWr8 b o => Sys2Proof.Machine.execBufWr8 b o s
  | .bufWr16 b o => Sys2Proof.Machine.execBufWr16 b o s
  | .bufWr32 b o => Sys2Proof.Machine.execBufWr32 b o s
  | .bufSetlen b v => Sys2Proof.Machine.execBufSetlen b v s
  | .bufSetchan b v => Sys2Proof.Machine.execBufSetchan b v s
  | .csClear => Sys2Proof.Machine.execCsClear s
  | .csAdd16 => Sys2Proof.Machine.execCsAdd16 s
  | .csAdd32 => Sys2Proof.Machine.execCsAdd32 s
  | .csAddbuf b o => Sys2Proof.Machine.execCsAddbuf b o s
  | .csAddaddr sel => Sys2Proof.Machine.execCsAddaddr sel s
  | .csFinal => Sys2Proof.Machine.execCsFinal s
  | .sniff b => Sys2Proof.Machine.execSniff b s
  | .pingToPong b => Sys2Proof.Machine.execPingToPong b s
  | .buildEcho b seq => Sys2Proof.Machine.execBuildEcho b seq s
  | .slipRx c x => Sys2Proof.Machine.execSlipRx c x s
  | .slipTx c => Sys2Proof.Machine.execSlipTx c s
  | .slipState c => Sys2Proof.Machine.execSlipState c s
  | .connInit k port => Sys2Proof.Machine.execConnInit k port s
  | .connReg k r => Sys2Proof.Machine.execConnReg k r s
  | .connReset k => Sys2Proof.Machine.execConnReset k s
  | .connSetremote k port => Sys2Proof.Machine.execConnSetremote k port s
  | .connOpen k => Sys2Proof.Machine.execConnOpen k s
  | .connConnect k port => Sys2Proof.Machine.execConnConnect k port s
  | .connClose k => Sys2Proof.Machine.execConnClose k s
  | .connUpdate k => Sys2Proof.Machine.execConnUpdate k s
  | .connTimeout k => Sys2Proof.Machine.execConnTimeout k s
  | .connAccept b => Sys2Proof.Machine.execConnAccept b s
  | .connRead k n => Sys2Proof.Machine.execConnRead k n s
  | .connWrite k n => Sys2Proof.Machine.execConnWrite k n s
  | .connStatus k => Sys2Proof.Machine.execConnStatus k s
  | .connEvents k => Sys2Proof.Machine.execConnEvents k s
  | .connListener k v => Sys2Proof.Machine.execConnListener k v s
  | .connTcpinfo k => Sys2Proof.Machine.execConnTcpinfo k s
  | .connGetremote k => Sys2Proof.Machine.execConnGetremote k s
  | .softReset => Sys2Proof.Machine.execSoftReset s

end Sys2Proof.Machine
end

