-- ==== Sys2Proof/Machine/Step.lean ====
section
/-! DEFINITION. One step of the machine: the next thing the host does (00_scope.md R16).  The block has no program counter and
fetches nothing (R20, R81); a program is the host's sequence of accesses, which `State.input` holds (log entry 3). -/

namespace Sys2Proof.Machine

/-- A write of `w` to CMD: run the command it encodes (R28), or answer E_ILLEGAL (R96). -/
def runCommand (w : Word) (s : State) : Host.Outcome State Fault Refusal :=
  match decode w with
  | .instr i => exec i s
  | .reject (.illegalOpcode op) => s.illegalCommand op

/-- One host access (R16, R80, R340). -/
def hostStep (a : HostAccess) (s : State) : Host.Outcome State Fault Refusal :=
  match a with
  | .reset => .next s.hardReset
  | .read offset width =>
    match accessStop offset width with
    | some stop => stop
    | none => .next (s.hostRead offset)
  | .write offset width v =>
    match accessStop offset width with
    | some stop => stop
    | none => if offset = cmdOffset then runCommand v s else .next (s.regWrite offset v)

/-- One step.  A build that breaks R13 has none; with no host access waiting nothing changes (R16). -/
def step (s : State) : Host.Outcome State Fault Refusal :=
  if s.build.valid then
    match s.input with
    | [] => .next s
    | a :: rest => hostStep a { s with input := rest }
  else .refused .invalidBuild

/-- The state in which the host's next access writes the command word `w` to CMD (R28). -/
def State.withFetchWord (s : State) (_nbits w : Nat) : State :=
  { s with input := .write cmdOffset 32 (BitVec.ofNat 32 w) :: s.input }

end Sys2Proof.Machine
end

