-- ==== Sys2Proof/Safety.lean ====
section
/-! DEFINITION. The terms in which claims speak: what a command answers, what it leaves as it was (frames), the well-formedness of a
state, the pool invariants (10_state.md R33), the error table (60_exceptions.md R321, R322), whole frames on the SLIP wire, and the
outcome of sniffing and the bytes of built packets (42_header.md R178 to R204). -/

namespace Sys2Proof.Machine

/-! ### Answers -/

/-- The outcome is a next state, and `P` holds of it. -/
def Answers (o : Answer) (P : State → Prop) : Prop := ∃ t, o = .next t ∧ P t

/-- The state a command error leaves: STATUS has the code and the opcode, RES0 and RES1 are 0, all else as before (R320). -/
def State.errored (s : State) (op code : Byte) : State :=
  { s with regs := { s.regs with err := code, lastop := op, res0 := 0, res1 := 0 } }

/-- The host registers after a command that succeeds: STATUS.ERR is 0, STATUS.LASTOP the opcode, RES0 and RES1 the results, and
every other register as before (R29, R320). -/
def Reports (s t : State) (op : Byte) (r0 r1 : Word) : Prop :=
  t.regs = { s.regs with err := 0, lastop := op, res0 := r0, res1 := r1 }

/-! ### Frames -/

/-- The build and the three fields of the model's own are as before. -/
def SameSetting (s t : State) : Prop :=
  t.build = s.build ∧ t.draw = s.draw ∧ t.input = s.input ∧ t.readData = s.readData

/-- Every data byte reads as before. -/
def SameData (s t : State) : Prop := ∀ b o, t.readByte b o = s.readByte b o

/-- Every data byte reads as before, but for the `n` bytes from offset `lo` of buffer `b`. -/
def SameDataBut (s t : State) (b : Handle) (lo n : Nat) : Prop :=
  ∀ h o, o < 65536 → ¬ (h = b ∧ lo ≤ o ∧ o < lo + n) → t.readByte h o = s.readByte h o

/-- Every buffer record and every chain is as before. -/
def SamePool (s t : State) : Prop := t.bufs = s.bufs ∧ t.chains = s.chains

/-- Every buffer record but that of `b` is as before. -/
def SameBufsBut (s t : State) (b : Handle) : Prop := ∀ h, h ≠ b → t.buf h = s.buf h

/-- LEN, REF, CHAN and LOC of every buffer but those of `bs` are as before; NEXT belongs to the chains. -/
def SameTagsBut (s t : State) (bs : List Handle) : Prop :=
  ∀ h, h ∉ bs → (t.buf h).len = (s.buf h).len ∧ (t.buf h).ref = (s.buf h).ref ∧ (t.buf h).chan = (s.buf h).chan ∧
    (t.buf h).loc = (s.buf h).loc

/-- Every connection slot but `k` is as before. -/
def SameConnsBut (s t : State) (k : Nat) : Prop := ∀ j, j ≠ k → t.conn j = s.conn j

/-- Every SLIP channel but `c` is as before. -/
def SameSlipBut (s t : State) (c : Nat) : Prop := ∀ d, 1 ≤ d → d ≠ c → t.slip d = s.slip d

/-- All but the host registers is as before. -/
def OnlyRegs (s t : State) : Prop :=
  SameSetting s t ∧ SamePool s t ∧ SameData s t ∧ t.csa = s.csa ∧ t.slf = s.slf ∧ t.conns = s.conns

/-- All but the host registers and the pool is as before. -/
def OnlyPool (s t : State) : Prop :=
  SameSetting s t ∧ SameData s t ∧ t.csa = s.csa ∧ t.slf = s.slf ∧ t.conns = s.conns

/-- All but the host registers and data bytes is as before. -/
def OnlyData (s t : State) : Prop :=
  SameSetting s t ∧ SamePool s t ∧ t.csa = s.csa ∧ t.slf = s.slf ∧ t.conns = s.conns

/-- All but the host registers and the checksum accumulator is as before. -/
def OnlyCsa (s t : State) : Prop :=
  SameSetting s t ∧ SamePool s t ∧ SameData s t ∧ t.slf = s.slf ∧ t.conns = s.conns

/-- All but the host registers and the record of slot `k` is as before. -/
def OnlySlot (s t : State) (k : Nat) : Prop :=
  SameSetting s t ∧ SamePool s t ∧ SameData s t ∧ t.csa = s.csa ∧ t.slf = s.slf ∧ SameConnsBut s t k

/-! ### Chains as lists (R32, R33) -/

/-- The handles met by following NEXT from `h`, at most `fuel` of them. -/
def State.walk (s : State) : Nat → Handle → List Handle
  | 0, _ => []
  | fuel + 1, h => if h = NONE then [] else h :: s.walk fuel (s.buf h).next

/-- The buffers of chain `c`, head first. -/
def State.chainList (s : State) (c : Nat) : List Handle := s.walk s.build.nbuf (s.chain c).head

/-- Every chain but those of `cs` holds the same buffers in the same order. -/
def SameChainsBut (s t : State) (cs : List Nat) : Prop := ∀ c, c ∉ cs → t.chainList c = s.chainList c

/-- The buffers of chain `c` are exactly those of `l`, in that order (R33 items 1 and 2). -/
abbrev State.holdsChain (s : State) (c : Nat) (l : List Handle) : Prop :=
  (s.chain c).head = l.headD NONE ∧ (s.chain c).tail = l.getLastD NONE ∧ (s.chain c).count.toNat = l.length ∧
    l.map (fun b => (s.buf b).next) = (l ++ [NONE]).tail ∧ l.Nodup ∧ (∀ b ∈ l, s.build.hasBuffer b) ∧
    ∀ b : Handle, s.build.hasBuffer b → (b ∈ l ↔ (s.buf b).loc = .chain c)

/-- Items 1 and 2 of R33 for chain `c`. -/
abbrev State.chainOk (s : State) (c : Nat) : Prop := s.holdsChain c (s.chainList c)

/-- What the internal holder registers name: RXBUF and TXCUR of every channel and STAGED of every slot (R31). -/
def State.holders (s : State) : List Handle :=
  (s.slf.map (·.rxbuf) ++ s.slf.map (·.txcur) ++ s.conns.map (·.staged)).filter (· ≠ NONE)

/-- The location names a chain of the build, or is HOLD or OFF (R31). -/
def Loc.known (nchan : Nat) : Loc → Bool
  | .chain c => decide (c ≤ 2 + nchan)
  | .hold => true
  | .off => true

/-- Items 1 and 2 of R33: every chain is linked as its registers say and holds the buffers whose LOC names it. -/
abbrev State.chainsOk (s : State) : Prop := ∀ c, c < 3 + s.build.nchan → s.chainOk c

/-- Item 3 of R33: the holder registers name exactly the buffers with LOC = HOLD, each once. -/
abbrev State.holdersOk (s : State) : Prop :=
  s.holders.Nodup ∧ (∀ b ∈ s.holders, s.build.hasBuffer b) ∧
    ∀ b : Handle, s.build.hasBuffer b → (b ∈ s.holders ↔ (s.buf b).loc = .hold)

/-- Items 4 and 5 of R33, and that LOC is one of the values of R31. -/
abbrev State.bufferOk (s : State) (b : Handle) : Prop :=
  (s.buf b).loc.known s.build.nchan = true ∧
    ((s.buf b).loc = .hold ∨ (s.buf b).loc = .off → (s.buf b).next = NONE) ∧
    ((s.buf b).loc = .chain SPARE → (s.buf b).ref = 0)

/-- RETX is NONE or names a buffer (R50). -/
abbrev State.retxOk (s : State) : Prop := ∀ x ∈ s.conns, x.retx = NONE ∨ s.build.hasBuffer x.retx

/-- A staged buffer has bytes left: SOFF is below its LEN (R260, R298). -/
abbrev State.stagedOk (s : State) : Prop :=
  ∀ x ∈ s.conns, x.staged ≠ NONE → x.soff.toNat < (s.buf x.staged).len.toNat

/-- Items 1 to 5 of R33, that RETX is NONE or names a buffer, and that a staged buffer has bytes left. -/
abbrev State.poolOk (s : State) : Prop :=
  s.chainsOk ∧ s.holdersOk ∧ (∀ b : Handle, s.build.hasBuffer b → s.bufferOk b) ∧ s.retxOk ∧ s.stagedOk

/-! ### Buffers given back (R115, R242) -/

/-- Buffer `b`, which was host-held or in a holder, is released: with REF = 0 it is the new head of SPARE, else it stays host-held;
no other buffer record changes (R115). -/
def ReleasedTo (s t : State) (b : Handle) : Prop :=
  SameBufsBut s t b ∧
    ((s.buf b).ref = 0 →
      t.chainList SPARE = b :: s.chainList SPARE ∧ SameChainsBut s t [SPARE] ∧
        t.buf b = { s.buf b with next := (s.chain SPARE).head, loc := .chain SPARE }) ∧
    ((s.buf b).ref ≠ 0 → t.chains = s.chains ∧ t.buf b = { s.buf b with loc := .off })

/-- One reference to buffer `b` is dropped, if it has any; a host-held buffer that has none left is the new head of SPARE, and any
other stays where it is (R242). -/
def RetxDropped (s t : State) (b : Handle) : Prop :=
  let r := if (s.buf b).ref = 0 then 0 else (s.buf b).ref - 1
  SameBufsBut s t b ∧
    ((s.buf b).loc = .off ∧ r = 0 →
      t.chainList SPARE = b :: s.chainList SPARE ∧ SameChainsBut s t [SPARE] ∧
        t.buf b = { s.buf b with ref := 0, next := (s.chain SPARE).head, loc := .chain SPARE }) ∧
    (¬ ((s.buf b).loc = .off ∧ r = 0) → t.chains = s.chains ∧ t.buf b = { s.buf b with ref := r })

/-- The pool after a claim of buffer `b` by a slot that gives up its retransmit buffer `r`, before `b` itself is disposed of: no pool
change without one, R242 for another buffer, and for `b` itself one reference less (log entry 11). -/
def RetxGivenUp (s t : State) (r b : Handle) : Prop :=
  (r = NONE → SamePool s t) ∧ (r ≠ NONE → r ≠ b → RetxDropped s t r) ∧
    (r ≠ NONE → r = b →
      SameBufsBut s t b ∧ t.chains = s.chains ∧
        t.buf b = { s.buf b with ref := if (s.buf b).ref = 0 then 0 else (s.buf b).ref - 1 })

/-! ### Well-formed states -/

/-- The build is one of R13, and every array has the length it gives (R30, R32, R40, R50). -/
abbrev State.shaped (s : State) : Prop :=
  s.build.valid ∧ s.bufs.length = s.build.nbuf ∧ s.chains.length = 3 + s.build.nchan ∧ s.slf.length = s.build.nchan ∧
    s.conns.length = s.build.nconn

/-- An address of an IPv4 build has word 0 only (R25, R26, R50). -/
abbrev addrOk (ipv : IPVersion) (a : AddrWords) : Prop := ipv = .v4 → a.w1 = 0 ∧ a.w2 = 0 ∧ a.w3 = 0

/-- The bounds and encodings of one slot: the FIFO capacities (R50), the states of a UDP slot (R51), no bound slot in LISTEN and no
unbound TCP slot past it (R297), RETX and the `_DUE` flags of the handshake only in the states that use them (R272), and the width of RADDR. -/
abbrev Conn.ok (g : Config) (x : Conn) : Prop :=
  x.rfifo.length ≤ g.fifoCap ∧ x.wfifo.length ≤ g.fifoCap ∧
    (x.proto = .udp → x.state = .closed ∨ x.state = .opened ∨ x.state = .closing) ∧
    (x.state = .listen → x.rbound = false) ∧
    (x.proto = .tcp → x.state ≠ .closed → x.state ≠ .listen → x.rbound = true) ∧
    (x.retx ≠ NONE → x.state = .synSent ∨ x.state = .synRcvd) ∧
    (x.synDue = true → x.state = .synSent ∧ x.retx = NONE) ∧
    (x.synackDue = true → x.state = .synRcvd ∧ x.retx = NONE) ∧
    addrOk g.ipv x.raddr

/-- The bounds of every field: LEN (R30), the transmit phase (R41), the slots, the addresses, and the canonical memory. -/
abbrev State.fieldsOk (s : State) : Prop :=
  (∀ x ∈ s.bufs, x.len.toNat ≤ s.build.bufCap) ∧ (∀ x ∈ s.slf, x.txcur = NONE ↔ x.txph = .idle) ∧
    (∀ x ∈ s.conns, x.ok s.build) ∧ addrOk s.build.ipv s.regs.hostaddr ∧ addrOk s.build.ipv s.regs.argaddr ∧ s.mem.wf

/-- A state that runs can reach looks like this. -/
abbrev State.sound (s : State) : Prop := s.shaped ∧ s.fieldsOk ∧ s.poolOk

/-! ### The reset table (R340) -/

/-- Every state element of R340 but STATUS, RES0, RES1 and the data holds its reset value. -/
def State.atReset (s : State) : Prop :=
  (s.regs.cfg = 0x1440#15 ∧ s.regs.tcpwin.toNat = s.build.maxpayTcp ∧
    addrBytes s.build.ipv s.regs.hostaddr = addrBytes s.build.ipv s.build.hostAddrReset ∧
    s.regs.argaddr = ⟨0, 0, 0, 0⟩ ∧ s.regs.arg0 = 0 ∧ s.regs.arg1 = 0) ∧
  (s.csa.acc = 0 ∧ s.csa.odd = false ∧ s.csa.pend = 0) ∧
  (∀ b : Handle, s.build.hasBuffer b →
    (s.buf b).len = 0 ∧ (s.buf b).ref = 0 ∧ (s.buf b).chan = 0 ∧ (s.buf b).loc = .chain SPARE ∧
      (s.buf b).next = if b.toNat < s.build.nbuf - 1 then b + 1 else NONE) ∧
  ((s.chain SPARE).head = 0 ∧ (s.chain SPARE).tail.toNat = s.build.nbuf - 1 ∧
    (s.chain SPARE).count.toNat = s.build.nbuf) ∧
  (∀ c, 1 ≤ c → c ≤ 2 + s.build.nchan →
    (s.chain c).head = NONE ∧ (s.chain c).tail = NONE ∧ (s.chain c).count = 0) ∧
  (∀ c, 1 ≤ c → c ≤ s.build.nchan →
    (s.slip c).rxbuf = NONE ∧ (s.slip c).rxesc = false ∧ (s.slip c).rxovf = false ∧ (s.slip c).txcur = NONE ∧
      (s.slip c).txpos = 0 ∧ (s.slip c).txph = .idle) ∧
  ∀ k, k < s.build.nconn →
    s.conn k =
      { reg := false, proto := .udp, lport := 0, raddr := ⟨0, 0, 0, 0⟩, rport := 0, rbound := false, state := .closed,
        listener := false, rfifo := [], wfifo := [], staged := NONE, soff := 0, sndSeq := 0, rcvAck := 0, retx := NONE,
        retxCnt := 0, synDue := false, synackDue := false, retxDue := false, ackDue := false, events := 0 }

/-! ### The error table (R321) -/

/-- The buffer handle operand, of the commands that E_HANDLE names. -/
def handleOperand : Instr → Option Handle
  | .addSpare b | .queue b | .ref b | .unref b | .retained b | .bufInfo b | .chainPush _ b _ | .chainRemove _ b
  | .chainNext b | .bufRd8 b _ | .bufRd16 b _ | .bufRd32 b _ | .bufWr8 b _ | .bufWr16 b _ | .bufWr32 b _
  | .bufSetlen b _ | .bufSetchan b _ | .csAddbuf b _ | .sniff b | .pingToPong b | .buildEcho b _ | .connAccept b => some b
  | _ => none

/-- The chain operand, of the commands that E_CHAIN names, and whether the command may touch SPARE. -/
def chainOperand : Instr → Option (Byte × Bool)
  | .chainPush c _ _ | .chainPop c | .chainRemove c _ => some (c, false)
  | .chainPeek c | .chainCount c => some (c, true)
  | _ => none

/-- The connection slot operand, of the commands that E_SLOT names. -/
def slotOperand : Instr → Option Byte
  | .connInit k _ | .connReg k _ | .connReset k | .connSetremote k _ | .connOpen k | .connConnect k _ | .connClose k
  | .connUpdate k | .connTimeout k | .connRead k _ | .connWrite k _ | .connStatus k | .connEvents k | .connListener k _
  | .connTcpinfo k | .connGetremote k => some k
  | _ => none

/-- The SLIP channel operand, of the commands that E_SLOT names. -/
def channelOperand : Instr → Option Byte
  | .slipRx c _ | .slipTx c | .slipState c => some c
  | _ => none

/-- A numeric operand is out of range, for the commands that E_RANGE names. -/
def outOfRange (s : State) : Instr → Bool
  | .bufRd8 _ o | .bufWr8 _ o => decide (s.build.bufCap < o.toNat + 1)
  | .bufRd16 _ o | .bufWr16 _ o => decide (s.build.bufCap < o.toNat + 2)
  | .bufRd32 _ o | .bufWr32 _ o => decide (s.build.bufCap < o.toNat + 4)
  | .bufSetlen _ v => decide (s.build.bufCap < v.toNat)
  | .csAddbuf _ o => decide (s.build.bufCap < o.toNat + s.arg0Low.toNat)
  | .csAddaddr sel => decide (1 < sel.toNat)
  | .connRead _ n | .connWrite _ n => decide (4 < n.toNat)
  | _ => false

/-- The command needs its buffer host-held, of the commands that E_BUSY names. -/
def needsHeld : Instr → Bool
  | .addSpare _ | .queue _ | .chainPush _ _ _ | .bufWr8 _ _ | .bufWr16 _ _ | .bufWr32 _ _ | .bufSetlen _ _
  | .bufSetchan _ _ | .pingToPong _ | .buildEcho _ _ | .connAccept _ => true
  | _ => false

/-- The code of the first operand check that fails: chain, handle, slot or channel, range (R322 item 2). -/
def operandCode (i : Instr) (s : State) : Option Byte :=
  if (chainOperand i).any (fun p => decide (2 + s.build.nchan < p.1.toNat) || (p.1 == 0 && !p.2)) then some 3
  else if (handleOperand i).any (fun b => decide (s.build.nbuf ≤ b.toNat)) then some 2
  else if (slotOperand i).any (fun k => decide (s.build.nconn ≤ k.toNat) && decide (i ≠ .connUpdate 0xFF)) then some 8
  else if (channelOperand i).any (fun c => c == 0 || decide (s.build.nchan < c.toNat)) then some 8
  else if outOfRange s i then some 6
  else none

/-- The code of the first state check that fails (R322 item 3). -/
def stateCode (i : Instr) (s : State) : Option Byte :=
  if needsHeld i && (handleOperand i).any (fun b => decide ((s.buf b).loc ≠ .off)) then some 4
  else
    match i with
    | .ref b => if (s.buf b).loc = .chain SPARE then some 4 else if (s.buf b).ref = 255 then some 7 else none
    | .unref b => if (s.buf b).ref = 0 then some 7 else none
    | .chainRemove c b => if (s.buf b).loc ≠ .chain c.toNat then some 5 else none
    | .connSetremote k _ => if (s.conn k.toNat).state ≠ .closed then some 9 else none
    | .connOpen k =>
      if (s.conn k.toNat).state ≠ .closed then some 9 else if (s.conn k.toNat).lport = 0 then some 10 else none
    | .connConnect k _ =>
      if (s.conn k.toNat).proto = .udp ∨ (s.conn k.toNat).state ≠ .closed then some 9
      else if (s.conn k.toNat).lport = 0 then some 10 else none
    | .pingToPong b =>
      match s.sniff b with
      | .packet .echoRequest _ _ _ => none
      | _ => some 11
    | _ => none

/-! ### Whole SLIP frames (R220) -/

/-- The data bytes of a packet as they stand between two ENDs. -/
def slipWire (d : List Byte) : List Byte :=
  d.flatMap fun x => if x = slipEnd then [slipEsc, slipEscEnd] else if x = slipEsc then [slipEsc, slipEscEsc] else [x]

/-- Feed bytes to channel `c` with SLIP_RX, one command a byte; `none` if a command stalls or does not answer. -/
def State.feed (c : Byte) : List Byte → State → Option State
  | [], s => some s
  | x :: xs, s =>
    match exec (.slipRx c x) s with
    | .next t => if t.regs.res0 = 0 then State.feed c xs t else none
    | _ => none

/-- RES0 of `n` SLIP_TX commands on channel `c`, and the state after. -/
def State.drain (c : Byte) : Nat → State → List Word × State
  | 0, s => ([], s)
  | n + 1, s =>
    match exec (.slipTx c) s with
    | .next t => let r := State.drain c n t; (t.regs.res0 :: r.1, r.2)
    | _ => ([], s)

/-! ### Sniffed and written packets, byte by byte (R178 to R184, R200 to R204) -/

/-- The pseudo-header of the message of protocol `p` at `h` of packet `d` (R178). -/
def wirePh (ipv : IPVersion) (d : List Byte) (h : Nat) (p : Byte) : List Byte :=
  match ipv with
  | .v4 => slice d 12 4 ++ slice d 16 4 ++ [0x00, p] ++ bytes16 (BitVec.ofNat 16 (d.length - h))
  | .v6 => slice d 8 16 ++ slice d 24 16 ++ bytes32 (BitVec.ofNat 32 (d.length - h)) ++ [0x00, 0x00, 0x00, p]

/-- `out` is the outcome of the message of protocol `p` at `h` of packet `d` (step 5 of R180, R182 to R184). -/
def TransportFollows (m : SniffMode) (d : List Byte) (h : Nat) (p : Byte) (out : Sniffed) : Prop :=
  let n := d.length - h
  let dataOff := (byteAt d (h + 12)).toNat / 16
  let udpLen := (be16At d (h + 4)).toNat
  let icmp : Byte := if m.ipv = .v4 then 1 else 58
  let icmpHead := if m.ipv = .v6 ∨ m.icmp4ph = true then wirePh m.ipv d h icmp else []
  let good (head : List Byte) (f : Nat) (udp : Bool) : Bool := verify m.csv (head ++ d.drop h) (head.length + f) udp
  (p = 6 →
    (n < 20 → out = .bad .protocolPacketTooShort) ∧
    (20 ≤ n → dataOff < 5 → out = .bad .protocolFrameError) ∧
    (20 ≤ n → 5 ≤ dataOff → n < dataOff * 4 → out = .bad .protocolPacketTooShort) ∧
    (20 ≤ n → 5 ≤ dataOff → dataOff * 4 ≤ n →
      out = if good (wirePh m.ipv d h 6) 16 false then .packet .okay 6 h n else .bad .protocolChecksum)) ∧
  (p = 17 →
    (n < 8 → out = .bad .protocolPacketTooShort) ∧
    (8 ≤ n → udpLen ≠ n → out = .bad .protocolFrameError) ∧
    (8 ≤ n → udpLen = n → m.ipv = .v4 → be16At d (h + 6) = 0 → out = .packet .okay 17 h n) ∧
    (8 ≤ n → udpLen = n → ¬ (m.ipv = .v4 ∧ be16At d (h + 6) = 0) →
      out = if good (wirePh m.ipv d h 17) 6 true then .packet .okay 17 h n else .bad .protocolChecksum)) ∧
  (p = icmp →
    (n < 8 → out = .bad .protocolPacketTooShort) ∧
    (8 ≤ n → good icmpHead 2 false = false → out = .bad .protocolChecksum) ∧
    (8 ≤ n → good icmpHead 2 false = true →
      out =
        if byteAt d h = (if m.ipv = .v4 then 8 else 128) then .packet .echoRequest icmp h n
        else if byteAt d h = (if m.ipv = .v4 then 0 else 129) then .packet .echoReply icmp h n
        else .bad .protocolUnsupported)) ∧
  (p ≠ 6 → p ≠ 17 → p ≠ icmp → out = .bad .protocolUnsupported)

/-- `out` is the outcome of the packet `d`: the first check of R180 that fails gives its code. -/
def SniffFollows (m : SniffMode) (d : List Byte) (out : Sniffed) : Prop :=
  let v := (byteAt d 0).toNat / 16
  let ihl := (byteAt d 0).toNat % 16
  let total := (be16At d 2).toNat
  (d.length = 0 → out = .bad .frameError) ∧
  (d.length ≠ 0 → m.ipv = .v4 →
    (v = 6 → out = .bad .ipv6) ∧ (v ≠ 4 → v ≠ 6 → out = .bad .frameError) ∧
    (v = 4 →
      (d.length < 20 → out = .bad .ipv4PacketTooShort) ∧
      (20 ≤ d.length → ihl < 5 → out = .bad .ipv4FrameError) ∧
      (20 ≤ d.length → 5 ≤ ihl → d.length < ihl * 4 → out = .bad .ipv4PacketTooShort) ∧
      (20 ≤ d.length → 5 ≤ ihl → ihl * 4 ≤ d.length →
        (total ≠ d.length → out = .bad .ipv4FrameError) ∧
        (total = d.length → verify m.csv (d.take (ihl * 4)) 10 false = false → out = .bad .ipv4Checksum) ∧
        (total = d.length → verify m.csv (d.take (ihl * 4)) 10 false = true →
          TransportFollows m d (ihl * 4) (byteAt d 9) out)))) ∧
  (d.length ≠ 0 → m.ipv = .v6 →
    (v = 4 → out = .bad .ipv4) ∧ (v ≠ 4 → v ≠ 6 → out = .bad .frameError) ∧
    (v = 6 →
      (d.length < 40 → out = .bad .ipv6PacketTooShort) ∧
      (40 ≤ d.length → (be16At d 4).toNat + 40 ≠ d.length → out = .bad .ipv6FrameError) ∧
      (40 ≤ d.length → (be16At d 4).toNat + 40 = d.length → TransportFollows m d 40 (byteAt d 6) out)))

/-- The packet that R200 writes from this host to `dst` around the message `msg` of protocol `p`, its header checksum left 0. -/
def State.ipPacket (s : State) (p : Byte) (dst : AddrWords) (msg : List Byte) : List Byte :=
  let ttl := s.regs.cfg.extractLsb' 0 8
  let ends := addrBytes s.build.ipv s.regs.hostaddr ++ addrBytes s.build.ipv dst
  match s.build.ipv with
  | .v4 => [0x45, 0x00] ++ bytes16 (BitVec.ofNat 16 (20 + msg.length)) ++ [0, 0, 0, 0, ttl, p, 0, 0] ++ ends ++ msg
  | .v6 => [0x60, 0x00, 0x00, 0x00] ++ bytes16 (BitVec.ofNat 16 msg.length) ++ [p, ttl] ++ ends ++ msg

/-- `d` is that packet with its checksums filled in, the message's at `f` of the message, where `msg` has 0 (R200, R203, R204). -/
def State.wrotePacket (s : State) (d : List Byte) (p : Byte) (dst : AddrWords) (f : Nat) (msg : List Byte) : Prop :=
  let h := s.build.iph
  let c := csum (wirePh s.build.ipv d h p ++ patch (d.drop h) f [0, 0])
  (s.build.ipv = .v4 →
    patch (patch d 10 [0, 0]) (20 + f) [0, 0] = s.ipPacket p dst msg ∧ be16At d 10 = csum (patch (d.take 20) 10 [0, 0])) ∧
  (s.build.ipv = .v6 → patch d (40 + f) [0, 0] = s.ipPacket p dst msg) ∧
  be16At d (h + f) = if p = 17 ∧ c = 0 then 0xFFFF else c

/-- `d` is the segment that a slot with the record `x` sends with flags `fl` and this payload: its ports and numbers, the window
TCPWIN, from HOSTADDR to RADDR with TTL CFG.TTL (R200, R201). -/
def State.wroteTcp (s : State) (d : List Byte) (x : Conn) (fl : Byte) (payload : List Byte) : Prop :=
  s.wrotePacket d 6 x.raddr 16
    (bytes16 x.lport ++ bytes16 x.rport ++ bytes32 x.sndSeq ++ bytes32 (if fl &&& 0x10 = 0 then 0 else x.rcvAck) ++
      [0x50, fl] ++ bytes16 s.regs.tcpwin ++ [0, 0, 0, 0] ++ payload)

/-- `d` is the datagram that a slot with the record `x` sends with this payload (R200, R202). -/
def State.wroteUdp (s : State) (d : List Byte) (x : Conn) (payload : List Byte) : Prop :=
  s.wrotePacket d 17 x.raddr 6
    (bytes16 x.lport ++ bytes16 x.rport ++ bytes16 (BitVec.ofNat 16 (8 + payload.length)) ++ [0, 0] ++ payload)

/-! ### Streams and packets (R260, R290) -/

/-- The bytes a slot can still deliver to CONN_READ: those of RFIFO, then the rest of the staged buffer. -/
def State.stream (s : State) (k : Nat) : List Byte :=
  let x := s.conn k
  x.rfifo ++
    if x.staged = NONE then [] else s.readBytes x.staged x.soff.toNat ((s.buf x.staged).len.toNat - x.soff.toNat)

/-- The source port of the transport header at `h` of buffer `b` (R172, R174). -/
def State.srcPort (s : State) (b : Handle) (h : Nat) : Half := be16 (s.readByte b h) (s.readByte b (h + 1))

/-- The destination port of the transport header at `h` of buffer `b`. -/
def State.dstPort (s : State) (b : Handle) (h : Nat) : Half := be16 (s.readByte b (h + 2)) (s.readByte b (h + 3))

/-- The source address of the packet in buffer `b` (R177). -/
def State.srcAddr (s : State) (b : Handle) : List Byte := s.readBytes b (srcOff s.build.ipv) s.build.alen

/-- The checks that R290 and R291 make of every slot before its protocol's own. -/
abbrev State.admits (s : State) (k : Nat) (b : Handle) (p : Byte) (h : Nat) : Prop :=
  (s.conn k).reg = true ∧ (s.conn k).proto = (if p = 6 then .tcp else .udp) ∧ (s.conn k).lport = s.dstPort b h ∧
    (s.conn k).state ≠ .closed ∧
    ((s.conn k).rbound = true →
      s.srcAddr b = addrBytes s.build.ipv (s.conn k).raddr ∧ s.srcPort b h = (s.conn k).rport)

/-- Slot `k` does not answer REJECT to the packet in buffer `b`: it admits it, and a listening TCP slot takes a bare SYN only
(R291, R293, R299).  In a sound state no other check rejects. -/
abbrev State.claims (s : State) (k : Nat) (b : Handle) (p : Byte) (h : Nat) : Prop :=
  s.admits k b p h ∧
    (p = 6 → (s.conn k).state = .listen → s.readByte b (h + 13) &&& 0x02 ≠ 0 ∧ s.readByte b (h + 13) &&& 0x15 = 0)

/-- Slot `k` is the one that claims the packet in buffer `b`: it does not reject it, and every slot before it does (R290). -/
abbrev State.firstClaims (s : State) (k : Nat) (b : Handle) (p : Byte) (h : Nat) : Prop :=
  k < s.build.nconn ∧ s.claims k b p h ∧ ∀ j, j < k → ¬ s.claims j b p h

end Sys2Proof.Machine
end

