-- ==== Sys2Proof/Certificates/Slice0/Obligations.lean ====
section
/-! DEFINITION. The statements for the provers. Every statement about a command names the rule of spec/ whose paths it follows, checks
and all; the terms it is written in stand in Sys2Proof/Safety.lean. -/

open Sys2Proof Sys2Proof.Machine

/-! ### Encoding -/

/-- R90, R92, R93, R95: decoding the word of any command gives the command back. -/
def Obligations.DecodeInvertsEncode : Prop := ∀ i : Instr, decode (encode i) = .instr i

/-- R94: the bits a command's format ignores are written as 0 and have no effect whatever their value. -/
def Obligations.IgnoredBitsHaveNoEffect : Prop :=
  ∀ (w w' : Word) (i : Instr), decode w = .instr i →
    encode i = w &&& i.usedBits ∧ (w' &&& i.usedBits = w &&& i.usedBits → decode w' = .instr i)

/-- R96: the unassigned opcodes, and what a command word with one of them does; every other word is a command. -/
def Obligations.UnassignedOpcodesAreIllegal : Prop :=
  ∀ (w : Word) (s : State) (rest : List HostAccess), s.build.valid → s.input = .write 0x38 32 w :: rest →
    let op := w.toNat / 2 ^ 24
    let unassigned := op = 0x0E ∨ op = 0x0F ∨ (0x18 ≤ op ∧ op ≤ 0x1F) ∨ (0x26 ≤ op ∧ op ≤ 0x2F) ∨
      (0x33 ≤ op ∧ op ≤ 0x3F) ∨ (0x43 ≤ op ∧ op ≤ 0x4F) ∨ (0x61 ≤ op ∧ op ≤ 0x7E) ∨ 0x80 ≤ op
    (unassigned → step s = .next (({ s with input := rest } : State).errored (BitVec.ofNat 8 op) 1)) ∧
      (¬ unassigned → ∃ i, decode w = .instr i ∧ i.opcode.toNat = op)

/-- R92, R99: words written out field by field, one or more of every format of R92, decode to the commands they stand for. -/
def Obligations.SampleWordsDecode : Prop :=
  decode 0x00000000#32 = .instr .nop ∧ decode 0x21000000#32 = .instr .csAdd16 ∧ decode 0x06030000#32 = .instr (.retained 3) ∧
    decode 0x1003007F#32 = .instr (.bufRd8 3 127) ∧ decode 0x09040000#32 = .instr (.chainPop 4) ∧
    decode 0x24010000#32 = .instr (.csAddaddr 1) ∧ decode 0x41020000#32 = .instr (.slipTx 2) ∧
    decode 0x5C030000#32 = .instr (.connStatus 3) ∧ decode 0x08030102#32 = .instr (.chainPush 3 2 true) ∧
    decode 0x0B030102#32 = .instr (.chainRemove 3 2) ∧ decode 0x1502007E#32 = .instr (.bufWr32 2 126) ∧
    decode 0x1701FFF2#32 = .instr (.bufSetchan 1 2) ∧ decode 0x23010014#32 = .instr (.csAddbuf 1 20) ∧
    decode 0x32000001#32 = .instr (.buildEcho 0 1) ∧ decode 0x400112DB#32 = .instr (.slipRx 1 0xDB) ∧
    decode 0x50010050#32 = .instr (.connInit 1 80) ∧ decode 0x57FF0000#32 = .instr (.connUpdate 0xFF) ∧
    decode 0x59AA0003#32 = .instr (.connAccept 3) ∧ decode 0x5B000004#32 = .instr (.connWrite 0 4) ∧
    decode 0x7F000000#32 = .instr .softReset ∧ decode 0x0E000000#32 = .reject (.illegalOpcode 0x0E)

/-! ### The host's steps -/

/-- R28: a write to CMD runs the command it encodes in one step; a read of CMD returns 0 and has no effect. -/
def Obligations.StepRunsTheDecodedCommand : Prop :=
  ∀ (s : State) (rest : List HostAccess), s.build.valid →
    (∀ w i, s.input = .write 0x38 32 w :: rest → decode w = .instr i → step s = exec i { s with input := rest }) ∧
    (s.input = .read 0x38 32 :: rest → step s = .next { s with input := rest, readData := some 0 }) ∧
    ∀ nbits v i, decodeTableWord nbits v = some i → step (s.withFetchWord nbits v) = exec i s

/-- R16, R70, R74, R80 in the model's form (log entries 2, 3, 4 and 10): the other host accesses, and the accesses that stop. -/
def Obligations.StepServesTheHost : Prop :=
  ∀ (s : State) (rest : List HostAccess) (o w : Nat) (v : Word),
    (¬ s.build.valid → step s = .refused .invalidBuild) ∧
    (s.build.valid →
      (s.input = [] → step s = .next s) ∧
      (s.input = .read o w :: rest → o < 0x100 → o % 4 = 0 → w = 32 →
        step s = .next { s with input := rest, readData := some (s.regRead o) }) ∧
      (s.input = .write o w v :: rest → o < 0x100 → o % 4 = 0 → w = 32 → o ≠ 0x38 →
        step s = .next (({ s with input := rest } : State).regWrite o v)) ∧
      (s.input = .read o w :: rest ∨ s.input = .write o w v :: rest →
        (0x100 ≤ o → step s = .fault .noSuchRegister) ∧
        (o < 0x100 → w ≠ 32 ∨ o % 4 ≠ 0 → step s = .refused .undefinedAccess)))

/-- R22: CAPS0 and CAPS1 report the parameters; with them what every other read-only or reserved offset reads as. -/
def Obligations.ReadOnlyRegistersShowTheirFields : Prop :=
  ∀ s : State, s.build.valid →
    (((s.regRead 0x00).extractLsb' 0 8).toNat = s.build.nbuf ∧ ((s.regRead 0x00).extractLsb' 8 4).toNat = s.build.nchan ∧
      ((s.regRead 0x00).extractLsb' 12 4).toNat = (if s.build.ipv = .v4 then 4 else 6) ∧
      ((s.regRead 0x00).extractLsb' 16 16).toNat = s.build.bufCap) ∧
    (((s.regRead 0x04).extractLsb' 0 16).toNat = s.build.fifoCap ∧
      ((s.regRead 0x04).extractLsb' 16 8).toNat = s.build.nconn ∧ (s.regRead 0x04).extractLsb' 24 8 = 0) ∧
    s.regRead 0x38 = 0 ∧
    ((s.regRead 0x3C).extractLsb' 0 8 = s.regs.err ∧ (s.regRead 0x3C).extractLsb' 8 8 = s.regs.lastop ∧
      (s.regRead 0x3C).extractLsb' 16 16 = 0) ∧
    s.regRead 0x40 = s.regs.res0 ∧ s.regRead 0x44 = s.regs.res1 ∧ s.regRead 0x48 = s.csa.acc ∧
    ((s.regRead 0x4C).getLsbD 0 = s.csa.odd ∧ (s.regRead 0x4C).extractLsb' 1 7 = 0 ∧
      (s.regRead 0x4C).extractLsb' 8 8 = s.csa.pend ∧ (s.regRead 0x4C).extractLsb' 16 16 = 0) ∧
    ∀ o, 0x50 ≤ o → s.regRead o = 0

/-- R21, R23 to R27: a host write changes the writable bits of the register it names and nothing else.  That bit 14 of CFG, which R23
gives to IPv4 builds only, is writable in IPv6 builds too is the model's choice (DESIGN CHOICE, unsafe: log entry 12). -/
def Obligations.WritableBitsReadBack : Prop :=
  ∀ (s : State) (o o' : Nat) (v : Word),
    let mask : Word :=
      if o = 0x08 then 0x7FFF
      else if o = 0x0C then 0xFFFF
      else if o = 0x10 ∨ o = 0x20 ∨ o = 0x30 ∨ o = 0x34 then 0xFFFFFFFF
      else if s.build.ipv = .v6 ∧ (o = 0x14 ∨ o = 0x18 ∨ o = 0x1C ∨ o = 0x24 ∨ o = 0x28 ∨ o = 0x2C) then 0xFFFFFFFF
      else 0
    OnlyRegs s (s.regWrite o v) ∧
      (s.regWrite o v).regRead o' = if o' = o then (v &&& mask) ||| (s.regRead o &&& ~~~mask) else s.regRead o'

/-! ### Reset -/

/-- R340: after the reset input, and in the machine right after reset of every build, every state element holds its reset value. -/
def Obligations.ResetInputLeavesTheResetTable : Prop :=
  (∀ (s : State) (rest : List HostAccess), s.build.valid → s.input = .reset :: rest →
    Answers (step s) fun t =>
      t.atReset ∧ t.build = s.build ∧ t.regs.err = 0 ∧ t.regs.lastop = 0 ∧ t.regs.res0 = 0 ∧ t.regs.res1 = 0) ∧
  ∀ g : Config, g.valid →
    (State.resetOf g).atReset ∧ (State.resetOf g).build = g ∧ (State.resetOf g).regs.err = 0 ∧
      (State.resetOf g).regs.lastop = 0 ∧ (State.resetOf g).regs.res0 = 0 ∧ (State.resetOf g).regs.res1 = 0

/-- R341: SOFT_RESET does the same but for the data bytes, which it keeps, and its own status. -/
def Obligations.SoftResetKeepsOnlyTheData : Prop :=
  ∀ s : State, s.build.valid →
    Answers (exec .softReset s) fun t =>
      t.atReset ∧ t.regs.err = 0 ∧ t.regs.lastop = 0x7F ∧ t.regs.res0 = 0 ∧ t.regs.res1 = 0 ∧ SameData s t ∧ SameSetting s t

/-- R33, R340: the machine right after reset satisfies the pool invariants and every bound, in every build. -/
def Obligations.ResetStateIsSound : Prop := State.reset.sound ∧ ∀ g : Config, g.valid → (State.resetOf g).sound

/-! ### The buffer pool -/

/-- R120: GET_SPARE takes the head of SPARE, or reports NONE and changes nothing. -/
def Obligations.GetSpareTakesTheHead : Prop :=
  ∀ s : State, s.sound →
    (∀ b l, s.chainList SPARE = b :: l →
      Answers (exec .getSpare s) fun t =>
        Reports s t 0x01 (b.setWidth 32) 0 ∧ t.chainList SPARE = l ∧ SameChainsBut s t [SPARE] ∧
          t.buf b = { s.buf b with len := 0, chan := 0, next := NONE, loc := .off } ∧ (t.buf b).ref = 0 ∧
          SameBufsBut s t b ∧ OnlyPool s t) ∧
    (s.chainList SPARE = [] → Answers (exec .getSpare s) fun t => Reports s t 0x01 0xFF 0 ∧ OnlyRegs s t)

/-- R121: ADD_SPARE of a host-held buffer releases it, and reports whether it went to SPARE. -/
def Obligations.AddSpareReturnsUnreferencedBuffers : Prop :=
  ∀ (s : State) (b : Handle), s.sound →
    (¬ s.build.hasBuffer b → exec (.addSpare b) s = .next (s.errored 0x02 2)) ∧
    (s.build.hasBuffer b → ¬ s.hostHeld b → exec (.addSpare b) s = .next (s.errored 0x02 4)) ∧
    (s.build.hasBuffer b → s.hostHeld b →
      ((s.buf b).ref = 0 →
        Answers (exec (.addSpare b) s) fun t => Reports s t 0x02 1 0 ∧ ReleasedTo s t b ∧ OnlyPool s t) ∧
      ((s.buf b).ref ≠ 0 → Answers (exec (.addSpare b) s) fun t => Reports s t 0x02 0 0 ∧ OnlyRegs s t))

/-- R122: QUEUE swaps a filled buffer, which goes to the tail of PENDING, for a fresh spare, or changes nothing. -/
def Obligations.QueueSwapsForASpare : Prop :=
  ∀ (s : State) (b : Handle), s.sound →
    (¬ s.build.hasBuffer b → exec (.queue b) s = .next (s.errored 0x03 2)) ∧
    (s.build.hasBuffer b → ¬ s.hostHeld b → exec (.queue b) s = .next (s.errored 0x03 4)) ∧
    (s.build.hasBuffer b → s.hostHeld b →
      (∀ x l, s.chainList SPARE = x :: l →
        Answers (exec (.queue b) s) fun t =>
          Reports s t 0x03 (x.setWidth 32) 0 ∧ t.chainList SPARE = l ∧ t.chainList PENDING = s.chainList PENDING ++ [b] ∧
            SameChainsBut s t [SPARE, PENDING] ∧ t.buf x = { s.buf x with len := 0, chan := 0, next := NONE, loc := .off } ∧
            t.buf b = { s.buf b with next := NONE, loc := .chain PENDING } ∧ SameTagsBut s t [b, x] ∧ OnlyPool s t) ∧
      (s.chainList SPARE = [] → Answers (exec (.queue b) s) fun t => Reports s t 0x03 0xFF 0 ∧ OnlyRegs s t))

/-- R123, R124, R139, R140: REF, UNREF, BUF_SETLEN and BUF_SETCHAN change one field of one buffer. -/
def Obligations.CountsAndTagsOfABuffer : Prop :=
  ∀ (s : State) (b : Handle) (v : Half) (ch : BitVec 4), s.shaped →
    (¬ s.build.hasBuffer b →
      exec (.ref b) s = .next (s.errored 0x04 2) ∧ exec (.unref b) s = .next (s.errored 0x05 2) ∧
        exec (.bufSetlen b v) s = .next (s.errored 0x16 2) ∧ exec (.bufSetchan b ch) s = .next (s.errored 0x17 2)) ∧
    (s.build.hasBuffer b →
      ((s.buf b).loc = .chain SPARE → exec (.ref b) s = .next (s.errored 0x04 4)) ∧
      ((s.buf b).loc ≠ .chain SPARE → (s.buf b).ref = 255 → exec (.ref b) s = .next (s.errored 0x04 7)) ∧
      ((s.buf b).loc ≠ .chain SPARE → (s.buf b).ref ≠ 255 →
        Answers (exec (.ref b) s) fun t =>
          Reports s t 0x04 (BitVec.ofNat 32 ((s.buf b).ref.toNat + 1)) 0 ∧
            t.buf b = { s.buf b with ref := (s.buf b).ref + 1 } ∧ SameBufsBut s t b ∧ t.chains = s.chains ∧ OnlyPool s t) ∧
      ((s.buf b).ref = 0 → exec (.unref b) s = .next (s.errored 0x05 7)) ∧
      ((s.buf b).ref ≠ 0 →
        Answers (exec (.unref b) s) fun t =>
          Reports s t 0x05 (BitVec.ofNat 32 ((s.buf b).ref.toNat - 1)) 0 ∧
            t.buf b = { s.buf b with ref := (s.buf b).ref - 1 } ∧ SameBufsBut s t b ∧ t.chains = s.chains ∧ OnlyPool s t) ∧
      (s.build.bufCap < v.toNat → exec (.bufSetlen b v) s = .next (s.errored 0x16 6)) ∧
      (v.toNat ≤ s.build.bufCap → ¬ s.hostHeld b → exec (.bufSetlen b v) s = .next (s.errored 0x16 4)) ∧
      (v.toNat ≤ s.build.bufCap → s.hostHeld b →
        Answers (exec (.bufSetlen b v) s) fun t =>
          Reports s t 0x16 0 0 ∧ t.buf b = { s.buf b with len := v } ∧ SameBufsBut s t b ∧ t.chains = s.chains ∧
            OnlyPool s t) ∧
      (¬ s.hostHeld b → exec (.bufSetchan b ch) s = .next (s.errored 0x17 4)) ∧
      (s.hostHeld b →
        Answers (exec (.bufSetchan b ch) s) fun t =>
          Reports s t 0x17 0 0 ∧ t.buf b = { s.buf b with chan := ch } ∧ SameBufsBut s t b ∧ t.chains = s.chains ∧
            OnlyPool s t))

/-- R125, R126, R129, R131, R132, R330: NOP and the pool's queries change nothing but the result registers. -/
def Obligations.NopAndPoolQueriesOnlyReport : Prop :=
  ∀ (s : State) (b : Handle) (c : Byte),
    ((Answers (exec .nop s) fun t => Reports s t 0x00 0 0 ∧ OnlyRegs s t) ∧
      ∀ w : Word, w.toNat < 2 ^ 24 → decode w = .instr .nop) ∧
    (¬ s.build.hasBuffer b →
      exec (.retained b) s = .next (s.errored 0x06 2) ∧ exec (.bufInfo b) s = .next (s.errored 0x07 2) ∧
        exec (.chainNext b) s = .next (s.errored 0x0D 2)) ∧
    (¬ s.build.hasChain c →
      exec (.chainPeek c) s = .next (s.errored 0x0A 3) ∧ exec (.chainCount c) s = .next (s.errored 0x0C 3)) ∧
    (s.build.hasBuffer b →
      (Answers (exec (.retained b) s) fun t =>
        Reports s t 0x06 (if (s.buf b).ref = 0 then 0 else 1) 0 ∧ OnlyRegs s t) ∧
      (Answers (exec (.bufInfo b) s) fun t =>
        OnlyRegs s t ∧ ∃ r0 r1 : Word, Reports s t 0x07 r0 r1 ∧
          r0.extractLsb' 0 16 = (s.buf b).len ∧ r0.extractLsb' 16 8 = (s.buf b).ref ∧ r0.extractLsb' 24 4 = (s.buf b).chan ∧
          r0.extractLsb' 28 4 = 0 ∧ r1.extractLsb' 5 3 = 0 ∧ r1.extractLsb' 8 8 = (s.buf b).next ∧
          r1.extractLsb' 16 16 = 0 ∧ ((s.buf b).loc = .hold → r1.extractLsb' 0 5 = 0x1E) ∧
          ((s.buf b).loc = .off → r1.extractLsb' 0 5 = 0x1F) ∧
          ∀ id, (s.buf b).loc = .chain id → r1.extractLsb' 0 5 = BitVec.ofNat 5 id) ∧
      (Answers (exec (.chainNext b) s) fun t => Reports s t 0x0D ((s.buf b).next.setWidth 32) 0 ∧ OnlyRegs s t)) ∧
    (s.build.hasChain c →
      (Answers (exec (.chainPeek c) s) fun t =>
        Reports s t 0x0A ((s.chain c.toNat).head.setWidth 32) ((s.chain c.toNat).count.setWidth 32) ∧ OnlyRegs s t) ∧
      (Answers (exec (.chainCount c) s) fun t =>
        Reports s t 0x0C ((s.chain c.toNat).count.setWidth 32) 0 ∧ OnlyRegs s t))

/-- R127: CHAIN_PUSH appends at the tail, or with urgent inserts at the head, and reports the new count. -/
def Obligations.ChainPushAddsAtTheChosenEnd : Prop :=
  ∀ (s : State) (c : Byte) (b : Handle) (urgent : Bool), s.sound →
    (¬ s.build.hasChain c ∨ c = 0 → exec (.chainPush c b urgent) s = .next (s.errored 0x08 3)) ∧
    (s.build.hasChain c → c ≠ 0 →
      (¬ s.build.hasBuffer b → exec (.chainPush c b urgent) s = .next (s.errored 0x08 2)) ∧
      (s.build.hasBuffer b → ¬ s.hostHeld b → exec (.chainPush c b urgent) s = .next (s.errored 0x08 4)) ∧
      (s.build.hasBuffer b → s.hostHeld b →
        Answers (exec (.chainPush c b urgent) s) fun t =>
          let l := s.chainList c.toNat
          Reports s t 0x08 (BitVec.ofNat 32 (l.length + 1)) 0 ∧
            t.chainList c.toNat = (if urgent then b :: l else l ++ [b]) ∧ SameChainsBut s t [c.toNat] ∧
            (t.buf b).loc = .chain c.toNat ∧ (t.buf b).len = (s.buf b).len ∧ (t.buf b).ref = (s.buf b).ref ∧
            (t.buf b).chan = (s.buf b).chan ∧ SameTagsBut s t [b] ∧ OnlyPool s t))

/-- R128: CHAIN_POP takes the head of a chain other than SPARE. -/
def Obligations.ChainPopTakesTheHead : Prop :=
  ∀ (s : State) (c : Byte), s.sound →
    (¬ s.build.hasChain c ∨ c = 0 → exec (.chainPop c) s = .next (s.errored 0x09 3)) ∧
    (s.build.hasChain c → c ≠ 0 →
      (∀ b l, s.chainList c.toNat = b :: l →
        Answers (exec (.chainPop c) s) fun t =>
          Reports s t 0x09 (b.setWidth 32) 0 ∧ t.chainList c.toNat = l ∧ SameChainsBut s t [c.toNat] ∧
            t.buf b = { s.buf b with next := NONE, loc := .off } ∧ SameBufsBut s t b ∧ OnlyPool s t) ∧
      (s.chainList c.toNat = [] → Answers (exec (.chainPop c) s) fun t => Reports s t 0x09 0xFF 0 ∧ OnlyRegs s t))

/-- R130: CHAIN_REMOVE unlinks a member from anywhere in a chain; the order of the others stays, and R33 holds after it. -/
def Obligations.ChainRemoveUnlinksAMember : Prop :=
  ∀ (s : State) (c : Byte) (b : Handle), s.sound →
    (¬ s.build.hasChain c ∨ c = 0 → exec (.chainRemove c b) s = .next (s.errored 0x0B 3)) ∧
    (s.build.hasChain c → c ≠ 0 →
      (¬ s.build.hasBuffer b → exec (.chainRemove c b) s = .next (s.errored 0x0B 2)) ∧
      (s.build.hasBuffer b → (s.buf b).loc ≠ .chain c.toNat →
        exec (.chainRemove c b) s = .next (s.errored 0x0B 5)) ∧
      (s.build.hasBuffer b → (s.buf b).loc = .chain c.toNat →
        ∃ l l', s.chainList c.toNat = l ++ b :: l' ∧
          Answers (exec (.chainRemove c b) s) fun t =>
            t.sound ∧ Reports s t 0x0B 1 0 ∧ t.chainList c.toNat = l ++ l' ∧ SameChainsBut s t [c.toNat] ∧
              t.buf b = { s.buf b with next := NONE, loc := .off } ∧ SameTagsBut s t [b] ∧ OnlyPool s t))

/-- R133 to R135: the buffer reads return the bytes at the offset, big-endian, and change nothing. -/
def Obligations.BufReadsReturnTheBytes : Prop :=
  ∀ (s : State) (b : Handle) (o : Half),
    (¬ s.build.hasBuffer b →
      exec (.bufRd8 b o) s = .next (s.errored 0x10 2) ∧ exec (.bufRd16 b o) s = .next (s.errored 0x11 2) ∧
        exec (.bufRd32 b o) s = .next (s.errored 0x12 2)) ∧
    (s.build.hasBuffer b →
      (s.build.bufCap < o.toNat + 1 → exec (.bufRd8 b o) s = .next (s.errored 0x10 6)) ∧
      (o.toNat + 1 ≤ s.build.bufCap →
        Answers (exec (.bufRd8 b o) s) fun t => Reports s t 0x10 (0#24 ++ s.readByte b o.toNat) 0 ∧ OnlyRegs s t) ∧
      (s.build.bufCap < o.toNat + 2 → exec (.bufRd16 b o) s = .next (s.errored 0x11 6)) ∧
      (o.toNat + 2 ≤ s.build.bufCap →
        Answers (exec (.bufRd16 b o) s) fun t =>
          Reports s t 0x11 (0#16 ++ s.readByte b o.toNat ++ s.readByte b (o.toNat + 1)) 0 ∧ OnlyRegs s t) ∧
      (s.build.bufCap < o.toNat + 4 → exec (.bufRd32 b o) s = .next (s.errored 0x12 6)) ∧
      (o.toNat + 4 ≤ s.build.bufCap →
        Answers (exec (.bufRd32 b o) s) fun t =>
          Reports s t 0x12 (s.readByte b o.toNat ++ s.readByte b (o.toNat + 1) ++ s.readByte b (o.toNat + 2) ++
            s.readByte b (o.toNat + 3)) 0 ∧ OnlyRegs s t))

/-- R136 to R138: the buffer writes store the low bytes of ARG0 big-endian at the offset and change no other byte. -/
def Obligations.BufWritesStoreTheBytes : Prop :=
  ∀ (s : State) (b : Handle) (o : Half), s.build.valid →
    (¬ s.build.hasBuffer b →
      exec (.bufWr8 b o) s = .next (s.errored 0x13 2) ∧ exec (.bufWr16 b o) s = .next (s.errored 0x14 2) ∧
        exec (.bufWr32 b o) s = .next (s.errored 0x15 2)) ∧
    (s.build.hasBuffer b →
      (s.build.bufCap < o.toNat + 1 → exec (.bufWr8 b o) s = .next (s.errored 0x13 6)) ∧
      (o.toNat + 1 ≤ s.build.bufCap → ¬ s.hostHeld b → exec (.bufWr8 b o) s = .next (s.errored 0x13 4)) ∧
      (o.toNat + 1 ≤ s.build.bufCap → s.hostHeld b →
        Answers (exec (.bufWr8 b o) s) fun t =>
          Reports s t 0x13 0 0 ∧ t.readByte b o.toNat = s.regs.arg0.extractLsb' 0 8 ∧ SameDataBut s t b o.toNat 1 ∧
            OnlyData s t) ∧
      (s.build.bufCap < o.toNat + 2 → exec (.bufWr16 b o) s = .next (s.errored 0x14 6)) ∧
      (o.toNat + 2 ≤ s.build.bufCap → ¬ s.hostHeld b → exec (.bufWr16 b o) s = .next (s.errored 0x14 4)) ∧
      (o.toNat + 2 ≤ s.build.bufCap → s.hostHeld b →
        Answers (exec (.bufWr16 b o) s) fun t =>
          Reports s t 0x14 0 0 ∧ t.readByte b o.toNat = s.regs.arg0.extractLsb' 8 8 ∧
            t.readByte b (o.toNat + 1) = s.regs.arg0.extractLsb' 0 8 ∧ SameDataBut s t b o.toNat 2 ∧ OnlyData s t) ∧
      (s.build.bufCap < o.toNat + 4 → exec (.bufWr32 b o) s = .next (s.errored 0x15 6)) ∧
      (o.toNat + 4 ≤ s.build.bufCap → ¬ s.hostHeld b → exec (.bufWr32 b o) s = .next (s.errored 0x15 4)) ∧
      (o.toNat + 4 ≤ s.build.bufCap → s.hostHeld b →
        Answers (exec (.bufWr32 b o) s) fun t =>
          Reports s t 0x15 0 0 ∧ t.readByte b o.toNat = s.regs.arg0.extractLsb' 24 8 ∧
            t.readByte b (o.toNat + 1) = s.regs.arg0.extractLsb' 16 8 ∧
            t.readByte b (o.toNat + 2) = s.regs.arg0.extractLsb' 8 8 ∧
            t.readByte b (o.toNat + 3) = s.regs.arg0.extractLsb' 0 8 ∧ SameDataBut s t b o.toNat 4 ∧ OnlyData s t))

/-- R33 item 6: items 1 to 5 make every buffer counted exactly once, on a chain, in a holder or host-held. -/
def Obligations.BuffersAreConserved : Prop :=
  ∀ s : State, s.shaped → s.poolOk →
    ((List.range (3 + s.build.nchan)).map fun c => (s.chain c).count.toNat).sum +
        s.bufs.countP (fun x => x.loc = .hold) + s.bufs.countP (fun x => x.loc = .off) = s.build.nbuf

/-! ### Rules about every command -/

/-- R33, R141: every command keeps the pool invariants, and every other bound.  For CONN_ACCEPT of a slot's own retransmit buffer this
rests on the model's choice in log entry 11. -/
def Obligations.EveryCommandKeepsThePool : Prop :=
  ∀ (i : Instr) (s t : State), s.sound → exec i s = .next t → t.sound

/-- R30, R41, R50, R51, R272, R297: every step keeps the bounds and encodings of every field, and the memory canonical, from every
state that has them. -/
def Obligations.EveryStepKeepsTheFields : Prop :=
  ∀ s t : State, s.shaped ∧ s.fieldsOk → step s = .next t → t.shaped ∧ t.fieldsOk

/-- R16, R320, R321: in a sound state every command completes, with its opcode in STATUS and a code of the table. -/
def Obligations.SoundCommandsComplete : Prop :=
  ∀ (i : Instr) (s : State), s.sound →
    Answers (exec i s) fun t => t.regs.lastop = i.opcode ∧ t.regs.err.toNat ≤ 11

/-- R320: a command that ends with an error code changes STATUS, RES0 and RES1 and nothing else. -/
def Obligations.ErrorsChangeOnlyStatus : Prop :=
  ∀ (i : Instr) (s t : State), exec i s = .next t →
    t.regs.lastop = i.opcode ∧ (t.regs.err ≠ 0 → t = s.errored i.opcode t.regs.err)

/-- R321, R322: which code a command ends with: the first operand check that fails, else the first state check, else 0. -/
def Obligations.ErrorCodesFollowTheTable : Prop :=
  ∀ (i : Instr) (s : State),
    (∀ e, operandCode i s = some e → exec i s = .next (s.errored i.opcode e)) ∧
    (operandCode i s = none → ∀ e, stateCode i s = some e → exec i s = .next (s.errored i.opcode e)) ∧
    (operandCode i s = none → stateCode i s = none → ∀ t, exec i s = .next t → t.regs.err = 0)

/-- R26, R27, R34, R53, R155, R230, R350: which units a command reaches: the registers of the others keep their values, and no
command but CONN_EVENTS, CONN_INIT, CONN_RESET and SOFT_RESET clears an event. -/
def Obligations.UnitsKeepApart : Prop :=
  ∀ (i : Instr) (s t : State), exec i s = .next t → i ≠ .softReset →
    SameSetting s t ∧
    (t.regs.cfg = s.regs.cfg ∧ t.regs.tcpwin = s.regs.tcpwin ∧ t.regs.hostaddr = s.regs.hostaddr ∧
      t.regs.arg0 = s.regs.arg0 ∧ t.regs.arg1 = s.regs.arg1) ∧
    ((∀ k, i ≠ .connGetremote k) → t.regs.argaddr = s.regs.argaddr) ∧
    (¬ (0x20 ≤ i.opcode.toNat ∧ i.opcode.toNat ≤ 0x25) → t.csa = s.csa) ∧
    (¬ (0x40 ≤ i.opcode.toNat ∧ i.opcode.toNat ≤ 0x42) → t.slf = s.slf) ∧
    (¬ (0x50 ≤ i.opcode.toNat ∧ i.opcode.toNat ≤ 0x60) → t.conns = s.conns) ∧
    ∀ k, (∀ a, a.toNat = k → i ≠ .connEvents a ∧ i ≠ .connReset a ∧ ∀ port, i ≠ .connInit a port) →
      (s.conn k).events &&& ~~~(t.conn k).events = 0

/-- R300: the transition table: STATE of a slot changes only by these commands, from and to these states. -/
def Obligations.StateChangesFollowTheTable : Prop :=
  ∀ (i : Instr) (s t : State) (k : Nat), exec i s = .next t → (t.conn k).state ≠ (s.conn k).state →
    let p := (s.conn k).state
    let q := (t.conn k).state
    (∃ a, i = .connOpen a ∧ a.toNat = k ∧ p = .closed ∧
      q = (if (s.conn k).proto = .udp then ConnState.opened else ConnState.listen)) ∨
    (∃ a port, i = .connConnect a port ∧ a.toNat = k ∧ (s.conn k).proto = .tcp ∧ p = .closed ∧ q = .synSent) ∨
    (∃ a, i = .connClose a ∧ a.toNat = k ∧
      ((p = .opened ∧ q = .closing) ∨ ((p = .listen ∨ p = .synSent ∨ p = .synRcvd) ∧ q = .closed))) ∨
    (∃ a, (i = .connReset a ∨ ∃ port, i = .connInit a port) ∧ a.toNat = k ∧ q = .closed) ∨
    (∃ a, i = .connUpdate a ∧ (a.toNat = k ∨ a = 0xFF) ∧ p = .closing ∧ q = .closed ∧ (t.conn k).wfifo = []) ∨
    (∃ b, i = .connAccept b ∧
      ((p = .listen ∧ q = .synRcvd) ∨ (p = .synSent ∧ q = .opened) ∨ (p = .synRcvd ∧ q = .opened))) ∨
    (i = .softReset ∧ q = .closed)

/-! ### The checksum accumulator -/

/-- R160 to R165: the accumulator commands. -/
def Obligations.AccumulatorCommandsAddTheirBytes : Prop :=
  ∀ (s : State) (b : Handle) (o : Half) (sel : Byte),
    let a := s.regs.arg0
    (Answers (exec .csClear s) fun t =>
      Reports s t 0x20 0 0 ∧ t.csa = { acc := 0, odd := false, pend := 0 } ∧ OnlyCsa s t) ∧
    (Answers (exec .csAdd16 s) fun t =>
      Reports s t 0x21 t.csa.acc 0 ∧ t.csa = addBytes s.csa [a.extractLsb' 8 8, a.extractLsb' 0 8] ∧ OnlyCsa s t) ∧
    (Answers (exec .csAdd32 s) fun t =>
      Reports s t 0x22 t.csa.acc 0 ∧
        t.csa = addBytes s.csa [a.extractLsb' 24 8, a.extractLsb' 16 8, a.extractLsb' 8 8, a.extractLsb' 0 8] ∧
        OnlyCsa s t) ∧
    (¬ s.build.hasBuffer b → exec (.csAddbuf b o) s = .next (s.errored 0x23 2)) ∧
    (s.build.hasBuffer b → s.build.bufCap < o.toNat + (a.extractLsb' 0 16).toNat →
      exec (.csAddbuf b o) s = .next (s.errored 0x23 6)) ∧
    (s.build.hasBuffer b → o.toNat + (a.extractLsb' 0 16).toNat ≤ s.build.bufCap →
      Answers (exec (.csAddbuf b o) s) fun t =>
        Reports s t 0x23 t.csa.acc 0 ∧
          t.csa = addBytes s.csa ((List.range (a.extractLsb' 0 16).toNat).map fun j => s.readByte b (o.toNat + j)) ∧
          OnlyCsa s t) ∧
    (Answers (exec (.csAddaddr 0) s) fun t =>
      Reports s t 0x24 t.csa.acc 0 ∧ t.csa = addBytes s.csa (addrBytes s.build.ipv s.regs.argaddr) ∧ OnlyCsa s t) ∧
    (Answers (exec (.csAddaddr 1) s) fun t =>
      Reports s t 0x24 t.csa.acc 0 ∧ t.csa = addBytes s.csa (addrBytes s.build.ipv s.regs.hostaddr) ∧ OnlyCsa s t) ∧
    (1 < sel.toNat → exec (.csAddaddr sel) s = .next (s.errored 0x24 6)) ∧
    (Answers (exec .csFinal s) fun t =>
      let f := fold (if s.csa.odd then addEc s.csa.acc (s.csa.pend ++ 0#8) else s.csa.acc)
      Reports s t 0x25 (0#16 ++ ~~~f) (0#16 ++ f) ∧ OnlyRegs s t)

/-- R151: bytes added in pieces, however the sequence is split, and a pending byte padded, give `Sum` of the whole sequence; so
CS_FINAL after CS_CLEAR and the bytes of `d` reports `Csum(d)`. -/
def Obligations.PiecesSumAsOneSequence : Prop :=
  (∀ (a : Csa) (pieces : List (List Byte)), pieces.foldl addBytes a = addBytes a pieces.flatten) ∧
  (∀ d : List Byte, padded (addBytes { acc := 0, odd := false, pend := 0 } d) = sum d) ∧
  ∀ (s : State) (d : List Byte), s.csa = addBytes { acc := 0, odd := false, pend := 0 } d →
    Answers (exec .csFinal s) fun t => t.regs.res0 = 0#16 ++ csum d ∧ t.csa = s.csa

/-- R152, R153: the end-around-carry sum and the carry fold, and what they do modulo 65535. -/
def Obligations.EndAroundCarryAndFold : Prop :=
  ∀ (a : Word) (v : Half),
    (addEc a v).toNat =
      (if a.toNat + v.toNat < 2 ^ 32 then a.toNat + v.toNat else a.toNat + v.toNat - 2 ^ 32 + 1) ∧
    (addEc a v).toNat % 65535 = (a.toNat + v.toNat) % 65535 ∧
    (a.toNat < 65536 → (fold a).toNat = a.toNat) ∧
    (65536 ≤ a.toNat → fold a = fold (BitVec.ofNat 32 (a.toNat % 65536 + a.toNat / 65536))) ∧
    (fold a).toNat % 65535 = a.toNat % 65535 ∧ (fold a = 0 ↔ a = 0)

/-- R154: self-verification, indifference to the order of words, and to zeros appended. -/
def Obligations.ChecksumProperties : Prop :=
  (∀ (d : List Byte) (f : Nat), d.length % 2 = 0 → f % 2 = 0 → f + 2 ≤ d.length →
    let filled := patch d f (bytes16 (csum (patch d f [0, 0])))
    fold (sum filled) = 0xFFFF ∧ csum filled = 0) ∧
  (∀ ws ws' : List (Byte × Byte), ws.Perm ws' →
    fold (sum (ws.flatMap fun p => [p.1, p.2])) = fold (sum (ws'.flatMap fun p => [p.1, p.2]))) ∧
  ∀ d : List Byte, sum (d ++ [0, 0]) = sum d ∧ sum (d ++ [0]) = sum d

/-- R155, R156: which stored fields the two verify modes accept. -/
def Obligations.VerifyAcceptsByTheTable : Prop :=
  ∀ (d : List Byte) (f : Nat) (udp : Bool),
    let c := csum (patch d f [0, 0])
    let stored := be16At d f
    (verify false d f false = true ↔ stored = c) ∧
    (verify false d f true = true ↔ stored = if c = 0 then 0xFFFF else c) ∧
    (verify true d f udp = true ↔ stored = c ∨ (c = 0 ∧ stored = 0xFFFF))

/-! ### The header parser-serializer -/

/-- R189 item 2: a packet that Sniff accepts, one byte shorter, is too short or a frame error. -/
def Obligations.TruncationIsNeverAccepted : Prop :=
  ∀ (m : SniffMode) (d : List Byte) (c : HeaderSniff) (p : Byte) (h n : Nat), sniffBytes m d = .packet c p h n →
    ∃ e, sniffBytes m d.dropLast = .bad e ∧
      e ∈ [HeaderSniff.frameError, .ipv4FrameError, .ipv4PacketTooShort, .ipv6FrameError, .ipv6PacketTooShort,
        .protocolFrameError, .protocolPacketTooShort]

/-- R189 item 3: one changed payload byte of an accepted TCP packet, or of a UDP packet with a nonzero stored checksum, gives
hs_Protocol_Checksum, in both verify modes. -/
def Obligations.CorruptionIsNoticed : Prop :=
  ∀ (m : SniffMode) (d : List Byte) (h n i : Nat) (x : Byte), i < d.length → x ≠ byteAt d i →
    (sniffBytes m d = .packet .okay 6 h n → h + (byteAt d (h + 12)).toNat / 16 * 4 ≤ i →
      sniffBytes m (d.set i x) = .bad .protocolChecksum) ∧
    (sniffBytes m d = .packet .okay 17 h n → be16At d (h + 6) ≠ 0 → h + 8 ≤ i →
      sniffBytes m (d.set i x) = .bad .protocolChecksum)

/-- R200 to R205 item 1: the packet that BuildTCP or BuildUDP writes, byte by byte, that Sniff accepts it, and that nothing else
changes. -/
def Obligations.BuiltPacketsSniffOkay : Prop :=
  ∀ (s : State) (b : Handle) (k : Nat) (fl : Byte) (payload : List Byte), s.shaped → s.build.hasBuffer b →
    let frame (t : State) (n : Nat) :=
      t.buf b = { s.buf b with len := BitVec.ofNat 16 (s.build.iph + n), chan := 0 } ∧ SameBufsBut s t b ∧
        SameDataBut s t b 0 (s.build.iph + n) ∧ t = { s with bufs := t.bufs, mem := t.mem }
    (payload.length ≤ s.build.maxpayTcp →
      let t := s.buildTcp b k fl payload
      t.sniff b = .packet .okay 6 s.build.iph (20 + payload.length) ∧ s.wroteTcp (t.packet b) (s.conn k) fl payload ∧
        frame t (20 + payload.length)) ∧
    (payload.length ≤ s.build.maxpayUdp →
      let t := s.buildUdp b k payload
      t.sniff b = .packet .okay 17 s.build.iph (8 + payload.length) ∧ s.wroteUdp (t.packet b) (s.conn k) payload ∧
        frame t (8 + payload.length))

/-- R205 item 2: BUILD_ECHO writes an echo request, and PING_TO_PONG makes it an echo reply. -/
def Obligations.EchoRequestThenReply : Prop :=
  ∀ (s : State) (b : Handle) (seq : Half), s.shaped → s.build.hasBuffer b → s.hostHeld b →
    Answers (exec (.buildEcho b seq) s) fun t =>
      t.sniff b = .packet .echoRequest s.build.icmpProto s.build.iph 12 ∧
        Answers (exec (.pingToPong b) t) fun u => u.sniff b = .packet .echoReply s.build.icmpProto s.build.iph 12

/-- R186: PING_TO_PONG writes the addresses, the type and the checksums, and no other byte. -/
def Obligations.PingToPongWritesTheReply : Prop :=
  ∀ (s : State) (b : Handle),
    (¬ s.build.hasBuffer b → exec (.pingToPong b) s = .next (s.errored 0x31 2)) ∧
    (s.build.hasBuffer b → ¬ s.hostHeld b → exec (.pingToPong b) s = .next (s.errored 0x31 4)) ∧
    (s.build.hasBuffer b → s.hostHeld b → (∀ p h n, s.sniff b ≠ .packet .echoRequest p h n) →
      exec (.pingToPong b) s = .next (s.errored 0x31 11)) ∧
    (s.build.hasBuffer b → s.hostHeld b → ∀ p h n, s.sniff b = .packet .echoRequest p h n →
      Answers (exec (.pingToPong b) s) fun t =>
        let src := srcOff s.build.ipv
        let dst := dstOff s.build.ipv
        let d := t.packet b
        Reports s t 0x31 1 0 ∧ OnlyData s t ∧
          t.readBytes b dst s.build.alen = s.readBytes b src s.build.alen ∧
          t.readBytes b src s.build.alen = addrBytes s.build.ipv s.regs.hostaddr ∧
          t.readByte b h = (if s.build.ipv = .v4 then 0 else 129) ∧
          be16At d (h + 2) = csum (icmpPh s.sniffMode d h ++ patch (d.drop h) 2 [0, 0]) ∧
          (s.build.ipv = .v4 → be16At d 10 = csum (patch (d.take h) 10 [0, 0])) ∧
          ∀ g o, o < 65536 →
            ¬ (g = b ∧ ((dst ≤ o ∧ o < dst + s.build.alen) ∨ (src ≤ o ∧ o < src + s.build.alen) ∨ o = h ∨ o = h + 2 ∨
              o = h + 3 ∨ (s.build.ipv = .v4 ∧ (o = 10 ∨ o = 11)))) →
            t.readByte g o = s.readByte g o)

/-- R187: BUILD_ECHO writes an echo request to ARGADDR from HOSTADDR. -/
def Obligations.BuildEchoWritesTheRequest : Prop :=
  ∀ (s : State) (b : Handle) (seq : Half), s.shaped →
    (¬ s.build.hasBuffer b → exec (.buildEcho b seq) s = .next (s.errored 0x32 2)) ∧
    (s.build.hasBuffer b → ¬ s.hostHeld b → exec (.buildEcho b seq) s = .next (s.errored 0x32 4)) ∧
    (s.build.hasBuffer b → s.hostHeld b →
      Answers (exec (.buildEcho b seq) s) fun t =>
        let n := s.build.iph + 12
        let d := t.packet b
        let ends := addrBytes s.build.ipv s.regs.hostaddr ++ addrBytes s.build.ipv s.regs.argaddr
        let echo (type : Byte) := [type, 0, 0, 0] ++ bytes16 (s.regs.arg0.extractLsb' 0 16) ++ bytes16 seq ++ bytes32 s.regs.arg1
        let ttl := s.regs.cfg.extractLsb' 0 8
        Reports s t 0x32 (BitVec.ofNat 32 n) 0 ∧
          t.buf b = { s.buf b with len := BitVec.ofNat 16 n, chan := 0 } ∧ SameBufsBut s t b ∧ t.chains = s.chains ∧
          (s.build.ipv = .v4 →
            patch (patch d 10 [0, 0]) 22 [0, 0] =
              [0x45, 0, 0, 32, 0, 0, 0, 0, ttl, 1, 0, 0] ++ ends ++ echo 8 ∧
            be16At d 10 = csum (patch (d.take 20) 10 [0, 0])) ∧
          (s.build.ipv = .v6 → patch d 42 [0, 0] = [0x60, 0, 0, 0, 0, 12, 58, ttl] ++ ends ++ echo 128) ∧
          be16At d (s.build.iph + 2) =
            csum (icmpPh s.sniffMode d s.build.iph ++ patch (d.drop s.build.iph) 2 [0, 0]) ∧
          SameDataBut s t b 0 n ∧ SameSetting s t ∧ t.csa = s.csa ∧ t.slf = s.slf ∧ t.conns = s.conns)

/-! ### The SLIP framer -/

/-- R221 to R224, for a byte other than END: a stall, the escape byte, a decoded data byte, an overflow, and the first byte of a
frame, which takes a spare buffer. -/
def Obligations.SlipRxDecodesAByte : Prop :=
  ∀ (s : State) (c x : Byte), s.sound → x ≠ 0xC0 →
    (¬ s.build.hasChannel c → exec (.slipRx c x) s = .next (s.errored 0x40 8)) ∧
    (s.build.hasChannel c →
      let z := s.slip c.toNat
      let b := z.rxbuf
      let isData := z.rxesc = true ∨ x ≠ 0xDB
      let y : Byte := if z.rxesc = true ∧ x = 0xDC then 0xC0 else if z.rxesc = true ∧ x = 0xDD then 0xDB else x
      (b = NONE → s.chainList SPARE = [] →
        Answers (exec (.slipRx c x) s) fun t => Reports s t 0x40 1 0 ∧ OnlyRegs s t) ∧
      (b ≠ NONE → ¬ isData →
        Answers (exec (.slipRx c x) s) fun t =>
          Reports s t 0x40 0 0 ∧ t.slip c.toNat = { z with rxesc := true } ∧ SameSlipBut s t c.toNat ∧ SamePool s t ∧
            SameData s t ∧ SameSetting s t ∧ t.csa = s.csa ∧ t.conns = s.conns) ∧
      (b ≠ NONE → isData → (s.buf b).len.toNat = s.build.bufCap →
        Answers (exec (.slipRx c x) s) fun t =>
          Reports s t 0x40 0 0 ∧ t.slip c.toNat = { z with rxesc := false, rxovf := true } ∧ SameSlipBut s t c.toNat ∧
            SamePool s t ∧ SameData s t ∧ SameSetting s t ∧ t.csa = s.csa ∧ t.conns = s.conns) ∧
      (b ≠ NONE → isData → (s.buf b).len.toNat ≠ s.build.bufCap →
        Answers (exec (.slipRx c x) s) fun t =>
          Reports s t 0x40 0 0 ∧ t.slip c.toNat = { z with rxesc := false } ∧ SameSlipBut s t c.toNat ∧
            t.readByte b (s.buf b).len.toNat = y ∧ SameDataBut s t b (s.buf b).len.toNat 1 ∧
            t.buf b = { s.buf b with len := (s.buf b).len + 1 } ∧ SameBufsBut s t b ∧ t.chains = s.chains ∧
            SameSetting s t ∧ t.csa = s.csa ∧ t.conns = s.conns) ∧
      (b = NONE → ∀ f l, s.chainList SPARE = f :: l →
        Answers (exec (.slipRx c x) s) fun t =>
          Reports s t 0x40 0 0 ∧
            t.slip c.toNat = { z with rxbuf := f, rxesc := decide (¬ isData) } ∧
            SameSlipBut s t c.toNat ∧ t.chainList SPARE = l ∧ SameChainsBut s t [SPARE] ∧
            t.buf f = { s.buf f with len := if isData then 1 else 0, chan := 0, next := NONE, loc := .hold } ∧
            SameBufsBut s t f ∧ (isData → t.readByte f 0 = y) ∧ SameDataBut s t f 0 (if isData then 1 else 0) ∧
            SameSetting s t ∧ t.csa = s.csa ∧ t.conns = s.conns))

/-- R221 to R224, for END: nothing to end, a frame dropped, a frame queued on PENDING in exchange for a fresh spare, and a stall. -/
def Obligations.SlipRxEndsAFrame : Prop :=
  ∀ (s : State) (c : Byte), s.sound → s.build.hasChannel c →
    let z := s.slip c.toNat
    let b := z.rxbuf
    let drop := z.rxovf = true ∨ z.rxesc = true ∨ (s.buf b).len = 0
    (b = NONE →
      Answers (exec (.slipRx c 0xC0) s) fun t =>
        Reports s t 0x40 0 0 ∧ t.slip c.toNat = { z with rxesc := false, rxovf := false } ∧ SameSlipBut s t c.toNat ∧
          SamePool s t ∧ SameData s t ∧ SameSetting s t ∧ t.csa = s.csa ∧ t.conns = s.conns) ∧
    (b ≠ NONE → drop →
      Answers (exec (.slipRx c 0xC0) s) fun t =>
        Reports s t 0x40 0 (if z.rxovf = true ∨ z.rxesc = true then 2 else 0) ∧
          t.slip c.toNat = { z with rxesc := false, rxovf := false } ∧ SameSlipBut s t c.toNat ∧
          t.buf b = { s.buf b with len := 0 } ∧ SameBufsBut s t b ∧ t.chains = s.chains ∧ SameData s t ∧ SameSetting s t ∧
          t.csa = s.csa ∧ t.conns = s.conns) ∧
    (b ≠ NONE → ¬ drop → ∀ f l, s.chainList SPARE = f :: l →
      Answers (exec (.slipRx c 0xC0) s) fun t =>
        Reports s t 0x40 0 1 ∧ t.slip c.toNat = { z with rxbuf := f } ∧ SameSlipBut s t c.toNat ∧
          t.chainList SPARE = l ∧ t.chainList PENDING = s.chainList PENDING ++ [b] ∧ SameChainsBut s t [SPARE, PENDING] ∧
          t.buf b = { s.buf b with chan := c.setWidth 4, next := NONE, loc := .chain PENDING } ∧
          t.buf f = { s.buf f with len := 0, chan := 0, next := NONE, loc := .hold } ∧ SameTagsBut s t [b, f] ∧
          SameData s t ∧ SameSetting s t ∧ t.csa = s.csa ∧ t.conns = s.conns) ∧
    (b ≠ NONE → ¬ drop → s.chainList SPARE = [] →
      Answers (exec (.slipRx c 0xC0) s) fun t => Reports s t 0x40 1 0 ∧ OnlyRegs s t)

/-- R225, R227: SLIP_TX loads the next frame of TX(c), and in each phase gives the byte that is next; the final END releases the
buffer. -/
def Obligations.SlipTxGivesTheNextByte : Prop :=
  ∀ (s : State) (c : Byte), s.sound →
    (¬ s.build.hasChannel c → exec (.slipTx c) s = .next (s.errored 0x41 8)) ∧
    (s.build.hasChannel c →
      let z := s.slip c.toNat
      let b := z.txcur
      let len := (s.buf b).len
      let x := s.readByte b z.txpos.toNat
      let sends (r : Word) (z' : SlipChan) :=
        Answers (exec (.slipTx c) s) fun t =>
          Reports s t 0x41 r 0 ∧ t.slip c.toNat = z' ∧ SameSlipBut s t c.toNat ∧ SamePool s t ∧ SameData s t ∧
            SameSetting s t ∧ t.csa = s.csa ∧ t.conns = s.conns
      (b = NONE → s.chainList (2 + c.toNat) = [] →
        Answers (exec (.slipTx c) s) fun t => Reports s t 0x41 0 0 ∧ OnlyRegs s t) ∧
      (b = NONE → ∀ f l, s.chainList (2 + c.toNat) = f :: l →
        ∃ u : State, exec (.slipTx c) s = exec (.slipTx c) u ∧ u.sound ∧ u.regs = s.regs ∧
          u.slip c.toNat =
            { z with txcur := f, txpos := 0, txph := if s.regs.cfg.getLsbD 12 then .lead else .data } ∧
          SameSlipBut s u c.toNat ∧ u.chainList (2 + c.toNat) = l ∧ SameChainsBut s u [2 + c.toNat] ∧
          u.buf f = { s.buf f with next := NONE, loc := .hold } ∧ SameBufsBut s u f ∧ SameData s u ∧ SameSetting s u ∧
          u.csa = s.csa ∧ u.conns = s.conns) ∧
      (z.txph = .lead → sends 0x1C0 { z with txph := .data }) ∧
      (z.txph = .escDc → sends 0x1DC { z with txpos := z.txpos + 1, txph := .data }) ∧
      (z.txph = .escDd → sends 0x1DD { z with txpos := z.txpos + 1, txph := .data }) ∧
      (z.txph = .data → z.txpos ≠ len → x = 0xC0 → sends 0x1DB { z with txph := .escDc }) ∧
      (z.txph = .data → z.txpos ≠ len → x = 0xDB → sends 0x1DB { z with txph := .escDd }) ∧
      (z.txph = .data → z.txpos ≠ len → x ≠ 0xC0 → x ≠ 0xDB →
        sends (BitVec.ofNat 32 (0x100 + x.toNat)) { z with txpos := z.txpos + 1 }) ∧
      (z.txph = .data → z.txpos = len →
        Answers (exec (.slipTx c) s) fun t =>
          Reports s t 0x41 0x3C0 0 ∧ t.slip c.toNat = { z with txcur := NONE, txpos := 0, txph := .idle } ∧
            SameSlipBut s t c.toNat ∧ ReleasedTo s t b ∧ SameData s t ∧ SameSetting s t ∧ t.csa = s.csa ∧
            t.conns = s.conns))

/-- R220, R225 to R227: repeated SLIP_TX sends the head of TX(c) as one whole frame and then releases it. -/
def Obligations.SlipTxSendsAWholeFrame : Prop :=
  ∀ (s : State) (c : Byte) (b : Handle) (l : List Handle), s.sound → s.build.hasChannel c →
    (s.slip c.toNat).txcur = NONE → s.chainList (2 + c.toNat) = b :: l →
    let lead : List Byte := if s.regs.cfg.getLsbD 12 then [0xC0] else []
    let wire := lead ++ slipWire (s.packet b)
    let r := s.drain c (wire.length + 1)
    r.1 = wire.map (fun x => BitVec.ofNat 32 (0x100 + x.toNat)) ++ [0x3C0] ∧
      r.2.sound ∧ r.2.chainList (2 + c.toNat) = l ∧ (r.2.slip c.toNat).txcur = NONE ∧
      ((s.buf b).ref = 0 → r.2.chainList SPARE = b :: s.chainList SPARE) ∧
      ((s.buf b).ref ≠ 0 → r.2.chainList SPARE = s.chainList SPARE ∧ r.2.hostHeld b) ∧ SameData s r.2

/-- R220 to R223, R229: a frame of 1 to BUF_CAP bytes fed to an idle channel is queued on PENDING with the same bytes. -/
def Obligations.SlipRxReceivesAWholeFrame : Prop :=
  ∀ (s : State) (c : Byte) (d : List Byte) (f g : Handle) (l : List Handle), s.sound → s.build.hasChannel c →
    (s.slip c.toNat).rxbuf = NONE → (s.slip c.toNat).rxesc = false → (s.slip c.toNat).rxovf = false →
    1 ≤ d.length → d.length ≤ s.build.bufCap → s.chainList SPARE = f :: g :: l →
    ∃ t, s.feed c (slipWire d ++ [0xC0]) = some t ∧ t.sound ∧ t.regs.res1 = 1 ∧
      t.chainList PENDING = s.chainList PENDING ++ [f] ∧ t.packet f = d ∧ (t.buf f).chan = c.setWidth 4 ∧
      (t.slip c.toNat).rxbuf = g ∧ t.chainList SPARE = l

/-! ### Connection slots: configuration and queries -/

/-- R241 to R243, R246, R248: CONN_RESET and CONN_INIT return a slot to idle and give its buffers back. -/
def Obligations.ConnInitAndResetIdleTheSlot : Prop :=
  ∀ (s : State) (k : Byte) (port : Half), s.sound →
    (¬ s.build.hasSlot k →
      exec (.connReset k) s = .next (s.errored 0x52 8) ∧ exec (.connInit k port) s = .next (s.errored 0x50 8)) ∧
    (s.build.hasSlot k →
      let x := s.conn k.toNat
      let idles (t : State) :=
        SameConnsBut s t k.toNat ∧ SameData s t ∧ SameSetting s t ∧ t.csa = s.csa ∧ t.slf = s.slf ∧
          (x.staged = NONE → x.retx = NONE → SamePool s t) ∧
          (x.staged ≠ NONE → x.retx = NONE → ReleasedTo s t x.staged) ∧
          (x.staged = NONE → x.retx ≠ NONE → RetxDropped s t x.retx) ∧
          (x.staged ≠ NONE → x.retx ≠ NONE →
            ∃ u : State, u.build = s.build ∧ ReleasedTo s u x.staged ∧ RetxDropped u t x.retx)
      (Answers (exec (.connReset k) s) fun t =>
        Reports s t 0x52 0 0 ∧ idles t ∧
          t.conn k.toNat = { idleConn with reg := x.reg, proto := x.proto, lport := x.lport }) ∧
      (Answers (exec (.connInit k port) s) fun t =>
        Reports s t 0x50 0 0 ∧ idles t ∧
          t.conn k.toNat =
            { idleConn with reg := x.reg, proto := if s.regs.arg0.getLsbD 0 then .tcp else .udp, lport := port }))

/-- R247, R249, R253, R255: CONN_REG, CONN_LISTENER, CONN_SETREMOTE and CONN_EVENTS. -/
def Obligations.SlotSettingsWriteTheirFields : Prop :=
  ∀ (s : State) (k : Byte) (v : Bool) (port : Half), s.shaped →
    (¬ s.build.hasSlot k →
      exec (.connReg k v) s = .next (s.errored 0x51 8) ∧ exec (.connListener k v) s = .next (s.errored 0x5E 8) ∧
        exec (.connSetremote k port) s = .next (s.errored 0x53 8) ∧ exec (.connEvents k) s = .next (s.errored 0x5D 8)) ∧
    (s.build.hasSlot k →
      let x := s.conn k.toNat
      (Answers (exec (.connReg k v) s) fun t =>
        Reports s t 0x51 0 0 ∧ t.conn k.toNat = { x with reg := v } ∧ OnlySlot s t k.toNat) ∧
      (Answers (exec (.connListener k v) s) fun t =>
        Reports s t 0x5E 0 0 ∧ t.conn k.toNat = { x with listener := v } ∧ OnlySlot s t k.toNat) ∧
      (x.state ≠ .closed → exec (.connSetremote k port) s = .next (s.errored 0x53 9)) ∧
      (x.state = .closed →
        Answers (exec (.connSetremote k port) s) fun t =>
          Reports s t 0x53 0 0 ∧ t.conn k.toNat = { x with raddr := s.regs.argaddr, rport := port, rbound := true } ∧
            OnlySlot s t k.toNat) ∧
      (Answers (exec (.connEvents k) s) fun t =>
        Reports s t 0x5D (x.events.setWidth 32) 0 ∧ t.conn k.toNat = { x with events := 0 } ∧ OnlySlot s t k.toNat))

/-- R250, R251: CONN_OPEN and CONN_CONNECT. -/
def Obligations.OpenAndConnectEnterTheirStates : Prop :=
  ∀ (s : State) (k : Byte) (port : Half), s.shaped →
    (¬ s.build.hasSlot k →
      exec (.connOpen k) s = .next (s.errored 0x54 8) ∧ exec (.connConnect k port) s = .next (s.errored 0x55 8)) ∧
    (s.build.hasSlot k →
      let x := s.conn k.toNat
      (x.state ≠ .closed → exec (.connOpen k) s = .next (s.errored 0x54 9)) ∧
      (x.state = .closed → x.lport = 0 → exec (.connOpen k) s = .next (s.errored 0x54 10)) ∧
      (x.state = .closed → x.lport ≠ 0 → x.proto = .udp →
        Answers (exec (.connOpen k) s) fun t =>
          Reports s t 0x54 4 0 ∧ t.conn k.toNat = { x with state := .opened, events := x.events ||| 1 } ∧
            OnlySlot s t k.toNat) ∧
      (x.state = .closed → x.lport ≠ 0 → x.proto = .tcp →
        Answers (exec (.connOpen k) s) fun t =>
          Reports s t 0x54 1 0 ∧
            t.conn k.toNat =
              { x with rbound := false, raddr := ⟨0, 0, 0, 0⟩, rport := 0, sndSeq := s.regs.arg0, rcvAck := 0,
                       state := .listen } ∧
            OnlySlot s t k.toNat) ∧
      (x.proto = .udp ∨ x.state ≠ .closed → exec (.connConnect k port) s = .next (s.errored 0x55 9)) ∧
      (x.proto = .tcp → x.state = .closed → x.lport = 0 → exec (.connConnect k port) s = .next (s.errored 0x55 10)) ∧
      (x.proto = .tcp → x.state = .closed → x.lport ≠ 0 →
        Answers (exec (.connConnect k port) s) fun t =>
          Reports s t 0x55 2 0 ∧
            t.conn k.toNat =
              { x with raddr := s.regs.argaddr, rport := port, rbound := true, sndSeq := s.regs.arg0, rcvAck := 0,
                       state := .synSent, synDue := true, retxCnt := 0 } ∧
            OnlySlot s t k.toNat))

/-- R252: CONN_CLOSE. -/
def Obligations.CloseDrainsOrAbandons : Prop :=
  ∀ (s : State) (k : Byte), s.sound →
    (¬ s.build.hasSlot k → exec (.connClose k) s = .next (s.errored 0x56 8)) ∧
    (s.build.hasSlot k →
      let x := s.conn k.toNat
      (x.state = .closed ∨ x.state = .closing →
        Answers (exec (.connClose k) s) fun t => Reports s t 0x56 0 0 ∧ OnlyRegs s t) ∧
      (x.state = .opened →
        Answers (exec (.connClose k) s) fun t =>
          Reports s t 0x56 1 0 ∧ t.conn k.toNat = { x with state := .closing } ∧ OnlySlot s t k.toNat) ∧
      (x.state = .listen ∨ x.state = .synSent ∨ x.state = .synRcvd →
        Answers (exec (.connClose k) s) fun t =>
          Reports s t 0x56 1 0 ∧
            t.conn k.toNat =
              { x with retx := NONE, synDue := false, synackDue := false, retxDue := false, ackDue := false,
                       state := .closed, events := x.events ||| 2 } ∧
            (x.retx = NONE → SamePool s t) ∧ (x.retx ≠ NONE → RetxDropped s t x.retx) ∧ SameConnsBut s t k.toNat ∧
            SameData s t ∧ SameSetting s t ∧ t.csa = s.csa ∧ t.slf = s.slf))

/-- R180 to R185, R228, R254, R256, R257: SNIFF with the outcome of every check and its code numbers, SLIP_STATE, CONN_STATUS,
CONN_TCPINFO and CONN_GETREMOTE. -/
def Obligations.UnitQueriesReport : Prop :=
  ∀ (s : State) (b : Handle) (c k : Byte), s.build.valid →
    let code (e : HeaderSniff) : Word :=
      match e with
      | .okay => 0 | .echoRequest => 1 | .echoReply => 2 | .frameError => 3 | .ipv4 => 4 | .ipv4FrameError => 5
      | .ipv4PacketTooShort => 6 | .ipv4Checksum => 7 | .ipv6 => 8 | .ipv6FrameError => 9 | .ipv6PacketTooShort => 10
      | .protocolUnsupported => 11 | .protocolFrameError => 12 | .protocolPacketTooShort => 13 | .protocolChecksum => 14
    (¬ s.build.hasBuffer b → exec (.sniff b) s = .next (s.errored 0x30 2)) ∧
    (s.build.hasBuffer b →
      SniffFollows { ipv := s.build.ipv, csv := s.regs.cfg.getLsbD 13, icmp4ph := s.regs.cfg.getLsbD 14 } (s.packet b)
        (s.sniff b) ∧
      (∀ e, s.sniff b = .bad e →
        Answers (exec (.sniff b) s) fun t => Reports s t 0x30 (code e) 0 ∧ OnlyRegs s t) ∧
      (∀ e p h n, s.sniff b = .packet e p h n →
        Answers (exec (.sniff b) s) fun t =>
          OnlyRegs s t ∧ ∃ r1 : Word, Reports s t 0x30 (code e) r1 ∧ r1.extractLsb' 0 8 = p ∧
            r1.extractLsb' 8 8 = BitVec.ofNat 8 h ∧ r1.extractLsb' 16 16 = BitVec.ofNat 16 n)) ∧
    (¬ s.build.hasChannel c → exec (.slipState c) s = .next (s.errored 0x42 8)) ∧
    (s.build.hasChannel c →
      let z := s.slip c.toNat
      Answers (exec (.slipState c) s) fun t =>
        OnlyRegs s t ∧ ∃ r0 : Word, Reports s t 0x42 r0 (z.txpos.setWidth 32) ∧ r0.extractLsb' 0 8 = z.rxbuf ∧
          r0.getLsbD 8 = z.rxesc ∧ r0.getLsbD 9 = z.rxovf ∧ r0.extractLsb' 10 6 = 0 ∧ r0.extractLsb' 16 8 = z.txcur ∧
          (r0.extractLsb' 24 3).toNat =
            (match z.txph with | .idle => 0 | .lead => 1 | .data => 2 | .escDc => 3 | .escDd => 4) ∧
          r0.extractLsb' 27 5 = 0) ∧
    (¬ s.build.hasSlot k →
      exec (.connStatus k) s = .next (s.errored 0x5C 8) ∧ exec (.connTcpinfo k) s = .next (s.errored 0x5F 8) ∧
        exec (.connGetremote k) s = .next (s.errored 0x60 8)) ∧
    (s.build.hasSlot k →
      let x := s.conn k.toNat
      (Answers (exec (.connStatus k) s) fun t =>
        OnlyRegs s t ∧ ∃ r0 r1 : Word, Reports s t 0x5C r0 r1 ∧
          (r0.extractLsb' 0 3).toNat =
            (match x.state with
              | .closed => 0 | .listen => 1 | .synSent => 2 | .synRcvd => 3 | .opened => 4 | .closing => 5) ∧
          r0.getLsbD 3 = decide (x.proto = .tcp) ∧ r0.getLsbD 4 = x.reg ∧ r0.getLsbD 5 = x.rbound ∧
          r0.getLsbD 6 = x.listener ∧ r0.getLsbD 7 = x.synDue ∧ r0.getLsbD 8 = x.synackDue ∧ r0.getLsbD 9 = x.retxDue ∧
          r0.getLsbD 10 = x.ackDue ∧ r0.getLsbD 11 = false ∧ r0.extractLsb' 12 4 = x.retxCnt ∧
          r0.extractLsb' 16 8 = x.staged ∧ r0.extractLsb' 24 8 = x.retx ∧
          r1.extractLsb' 0 16 = BitVec.ofNat 16 x.rfifo.length ∧ r1.extractLsb' 16 16 = BitVec.ofNat 16 x.wfifo.length) ∧
      (Answers (exec (.connTcpinfo k) s) fun t => Reports s t 0x5F x.sndSeq x.rcvAck ∧ OnlyRegs s t) ∧
      (Answers (exec (.connGetremote k) s) fun t =>
        t.regs =
            { s.regs with err := 0, lastop := 0x60, res0 := x.lport ++ x.rport, res1 := if x.rbound then 1 else 0,
                          argaddr := x.raddr } ∧
          OnlyRegs s t))

/-! ### Connection slots: streams -/

/-- R260, R261: CONN_READ returns the next bytes of the slot's stream, left-aligned, and takes them from it; `Refill` moves bytes
without changing the stream; a staged buffer that is used up is released. -/
def Obligations.ReadTakesFromTheStream : Prop :=
  ∀ (s : State) (k : Byte) (n : BitVec 3), s.sound →
    (¬ s.build.hasSlot k → exec (.connRead k n) s = .next (s.errored 0x5A 8)) ∧
    (s.build.hasSlot k → 4 < n.toNat → exec (.connRead k n) s = .next (s.errored 0x5A 6)) ∧
    (s.build.hasSlot k →
      let x := s.conn k.toNat
      let moves (t : State) :=
        (∃ r so, t.conn k.toNat = { x with rfifo := r, staged := (t.conn k.toNat).staged, soff := so }) ∧
          ((t.conn k.toNat).staged = x.staged ∨ (t.conn k.toNat).staged = NONE) ∧
          ((t.conn k.toNat).staged ≠ NONE → (t.conn k.toNat).soff.toNat < (t.buf (t.conn k.toNat).staged).len.toNat) ∧
          ((t.conn k.toNat).staged = x.staged → SamePool s t) ∧
          ((t.conn k.toNat).staged ≠ x.staged → ReleasedTo s t x.staged) ∧
          SameConnsBut s t k.toNat ∧ SameData s t ∧ SameSetting s t ∧ t.csa = s.csa ∧ t.slf = s.slf
      (n.toNat ≤ 4 →
        Answers (exec (.connRead k n) s) fun t =>
          let out := (s.stream k.toNat).take n.toNat
          Reports s t 0x5A t.regs.res0 (BitVec.ofNat 32 out.length) ∧
            bytes32 t.regs.res0 = out ++ List.replicate (4 - out.length) 0 ∧
            t.stream k.toNat = (s.stream k.toNat).drop n.toNat ∧ moves t) ∧
      let u := s.refill k.toNat
      u.sound ∧ u.regs = s.regs ∧ u.stream k.toNat = s.stream k.toNat ∧
        ((u.conn k.toNat).staged = NONE ∨ (u.conn k.toNat).rfifo.length = s.build.fifoCap) ∧ moves u)

/-- R200 to R204, R262, R263: CONN_WRITE fills the write FIFO, and sends FIFO and overflow as one packet when a spare is free. -/
def Obligations.WriteFillsTheFifoThenSends : Prop :=
  ∀ (s : State) (k : Byte) (n : BitVec 3), s.sound →
    (¬ s.build.hasSlot k → exec (.connWrite k n) s = .next (s.errored 0x5B 8)) ∧
    (s.build.hasSlot k → 4 < n.toNat → exec (.connWrite k n) s = .next (s.errored 0x5B 6)) ∧
    (s.build.hasSlot k → n.toNat ≤ 4 →
      let x := s.conn k.toNat
      let d := (bytes32 s.regs.arg0).take n.toNat
      let room := s.build.fifoCap - x.wfifo.length
      let takes := x.state = .opened ∧ (x.proto = .udp → x.rbound = true)
      (¬ takes → Answers (exec (.connWrite k n) s) fun t => Reports s t 0x5B 0 0 ∧ OnlyRegs s t) ∧
      (takes → n.toNat ≤ room →
        Answers (exec (.connWrite k n) s) fun t =>
          Reports s t 0x5B (n.setWidth 32) 0 ∧ t.conn k.toNat = { x with wfifo := x.wfifo ++ d } ∧ OnlySlot s t k.toNat) ∧
      (takes → room < n.toNat → s.chainList SPARE = [] →
        Answers (exec (.connWrite k n) s) fun t =>
          Reports s t 0x5B (BitVec.ofNat 32 room) 0 ∧ t.conn k.toNat = { x with wfifo := x.wfifo ++ d.take room } ∧
            OnlySlot s t k.toNat) ∧
      (takes → room < n.toNat → ∀ b l, s.chainList SPARE = b :: l →
        Answers (exec (.connWrite k n) s) fun t =>
          let hdr := if x.proto = .tcp then 20 else 8
          let more := min (n.toNat - room) (s.build.bufCap - s.build.iph - hdr - s.build.fifoCap)
          let payload := x.wfifo ++ d.take (room + more)
          Reports s t 0x5B (BitVec.ofNat 32 (room + more)) 0 ∧ 1 ≤ more ∧
            t.conn k.toNat =
              (if x.proto = .tcp then
                { x with wfifo := [], sndSeq := x.sndSeq + BitVec.ofNat 32 payload.length, ackDue := false }
              else { x with wfifo := [] }) ∧
            t.sniff b = .packet .okay (if x.proto = .tcp then 6 else 17) s.build.iph (hdr + payload.length) ∧
            (if x.proto = .tcp then s.wroteTcp (t.packet b) x 0x18 payload else s.wroteUdp (t.packet b) x payload) ∧
            (t.packet b).drop (s.build.iph + hdr) = payload ∧ t.srcPort b s.build.iph = x.lport ∧
            t.dstPort b s.build.iph = x.rport ∧
            (x.proto = .tcp →
              t.segment b s.build.iph (20 + payload.length) =
                { seq := x.sndSeq, ackn := x.rcvAck, fl := 0x18, poff := s.build.iph + 20, plen := payload.length }) ∧
            t.chainList SPARE = l ∧ t.chainList OUTBOUND = s.chainList OUTBOUND ++ [b] ∧
            SameChainsBut s t [SPARE, OUTBOUND] ∧ SameTagsBut s t [b] ∧
            SameDataBut s t b 0 (s.build.iph + hdr + payload.length) ∧ SameConnsBut s t k.toNat ∧ SameSetting s t ∧
            t.csa = s.csa ∧ t.slf = s.slf))

/-! ### Connection slots: update and timeout -/

/-- R200, R201, R271 a, b, e and 4, R272, R274: CONN_UPDATE sends a due SYN or SYN-ACK and keeps it as RETX, or sends a due bare ACK; without a
spare the flag waits. `u` is the state after step 1, `Refill` (R260). -/
def Obligations.UpdateSendsTheDueSegment : Prop :=
  ∀ (s : State) (k : Byte), s.sound → s.build.hasSlot k → (s.conn k.toNat).proto = .tcp →
    let x := s.conn k.toNat
    let u := s.refill k.toNat
    let syn := (x.state = .synSent ∧ x.synDue = true) ∨ (x.state = .synRcvd ∧ x.synackDue = true)
    let ack := x.ackDue = true ∧
      ((x.state = .synRcvd ∧ x.synackDue = false ∧ x.retxDue = false) ∨
        ((x.state = .opened ∨ x.state = .closing) ∧ x.wfifo = []))
    let closes (y : Conn) : Conn := if x.state = .closing then { y with state := .closed, events := x.events ||| 2 } else y
    let sent (t : State) (b : Handle) (l : List Handle) (fl : Byte) :=
      Reports s t 0x57 0 0 ∧ t.chainList SPARE = l ∧ t.chainList OUTBOUND = u.chainList OUTBOUND ++ [b] ∧
        SameChainsBut u t [SPARE, OUTBOUND] ∧ SameTagsBut u t [b] ∧
        t.sniff b = .packet .okay 6 s.build.iph 20 ∧ s.wroteTcp (t.packet b) x fl [] ∧ t.srcPort b s.build.iph = x.lport ∧
        t.dstPort b s.build.iph = x.rport ∧
        t.segment b s.build.iph 20 =
          { seq := x.sndSeq, ackn := if fl = 0x02 then 0 else x.rcvAck, fl := fl, poff := s.build.iph + 20, plen := 0 } ∧
        SameDataBut u t b 0 (s.build.iph + 20) ∧ SameConnsBut u t k.toNat ∧ SameSetting s t ∧ t.csa = s.csa ∧ t.slf = s.slf
    (syn ∨ ack → u.chainList SPARE = [] →
      Answers (exec (.connUpdate k) s) fun t =>
        Reports s t 0x57 0 0 ∧ t.conn k.toNat = closes (u.conn k.toNat) ∧ OnlySlot u t k.toNat) ∧
    ∀ b l, u.chainList SPARE = b :: l →
      (syn →
        Answers (exec (.connUpdate k) s) fun t =>
          sent t b l (if x.state = .synSent then 0x02 else 0x12) ∧ (t.buf b).ref = 1 ∧
            t.conn k.toNat = { u.conn k.toNat with retx := b, retxCnt := 1, synDue := false, synackDue := false }) ∧
      (ack →
        Answers (exec (.connUpdate k) s) fun t =>
          sent t b l 0x10 ∧ (t.buf b).ref = 0 ∧ t.conn k.toNat = closes { u.conn k.toNat with ackDue := false })

/-- R200 to R204, R263, R271, R275: CONN_UPDATE sends what the write FIFO holds as one packet, a slot in CLOSING whose FIFO is empty
becomes CLOSED, and of a slot with nothing due only the Refill happens. -/
def Obligations.UpdateDrainsTheFifoAndCloses : Prop :=
  ∀ (s : State) (k : Byte), s.sound → s.build.hasSlot k →
    let x := s.conn k.toNat
    let u := s.refill k.toNat
    let y := u.conn k.toNat
    let hdr := if x.proto = .tcp then 20 else 8
    let sends := (x.state = .opened ∨ x.state = .closing) ∧ x.wfifo ≠ [] ∧ (x.proto = .udp → x.rbound = true)
    let due := x.proto = .tcp ∧
      ((x.state = .synSent ∧ (x.synDue = true ∨ x.retxDue = true)) ∨
        (x.state = .synRcvd ∧ (x.synackDue = true ∨ x.retxDue = true ∨ x.ackDue = true)) ∨
        ((x.state = .opened ∨ x.state = .closing) ∧ x.ackDue = true))
    (sends → ∀ b l, u.chainList SPARE = b :: l →
      Answers (exec (.connUpdate k) s) fun t =>
        let sentConn := if x.proto = .tcp then
            { y with wfifo := [], sndSeq := x.sndSeq + BitVec.ofNat 32 x.wfifo.length, ackDue := false }
          else { y with wfifo := [] }
        Reports s t 0x57 0 0 ∧
          t.conn k.toNat =
            (if x.state = .closing then { sentConn with state := .closed, events := x.events ||| 2 } else sentConn) ∧
          t.sniff b = .packet .okay (if x.proto = .tcp then 6 else 17) s.build.iph (hdr + x.wfifo.length) ∧
          (if x.proto = .tcp then s.wroteTcp (t.packet b) x 0x18 x.wfifo else s.wroteUdp (t.packet b) x x.wfifo) ∧
          (t.packet b).drop (s.build.iph + hdr) = x.wfifo ∧ t.srcPort b s.build.iph = x.lport ∧
          t.dstPort b s.build.iph = x.rport ∧
          (x.proto = .tcp →
            t.segment b s.build.iph (20 + x.wfifo.length) =
              { seq := x.sndSeq, ackn := x.rcvAck, fl := 0x18, poff := s.build.iph + 20, plen := x.wfifo.length }) ∧
          t.chainList SPARE = l ∧ t.chainList OUTBOUND = u.chainList OUTBOUND ++ [b] ∧ SameChainsBut u t [SPARE, OUTBOUND] ∧
          SameTagsBut u t [b] ∧ SameDataBut u t b 0 (s.build.iph + hdr + x.wfifo.length) ∧ SameConnsBut u t k.toNat ∧
          SameSetting s t ∧ t.csa = s.csa ∧ t.slf = s.slf) ∧
    (sends → u.chainList SPARE = [] →
      Answers (exec (.connUpdate k) s) fun t => Reports s t 0x57 0 0 ∧ OnlyRegs u t) ∧
    (x.state = .closing → x.wfifo = [] → x.proto = .udp ∨ x.ackDue = false →
      Answers (exec (.connUpdate k) s) fun t =>
        Reports s t 0x57 0 0 ∧ t.conn k.toNat = { y with state := .closed, events := x.events ||| 2 } ∧
          OnlySlot u t k.toNat) ∧
    (¬ due → ¬ sends → ¬ (x.state = .closing ∧ x.wfifo = []) →
      Answers (exec (.connUpdate k) s) fun t => Reports s t 0x57 0 0 ∧ OnlyRegs u t)

/-- R270, R271 c, R273: CONN_UPDATE resends the retained handshake segment once it is host-held; CONN_UPDATE 0xFF updates every
registered slot in ascending order. -/
def Obligations.UpdateRetransmitsAndServesAll : Prop :=
  ∀ (s : State) (k : Byte), s.sound →
    (¬ s.build.hasSlot k → k ≠ 0xFF → exec (.connUpdate k) s = .next (s.errored 0x57 8)) ∧
    (s.build.hasSlot k → (s.conn k.toNat).proto = .tcp →
      let x := s.conn k.toNat
      let u := s.refill k.toNat
      let due := x.retxDue = true ∧ ((x.state = .synSent ∧ x.synDue = false) ∨ (x.state = .synRcvd ∧ x.synackDue = false))
      (due → x.retx = NONE →
        Answers (exec (.connUpdate k) s) fun t =>
          Reports s t 0x57 0 0 ∧ t.conn k.toNat = { u.conn k.toNat with retxDue := false } ∧ OnlySlot u t k.toNat) ∧
      (due → x.retx ≠ NONE → (u.buf x.retx).loc ≠ .off →
        Answers (exec (.connUpdate k) s) fun t => Reports s t 0x57 0 0 ∧ OnlyRegs u t) ∧
      (due → x.retx ≠ NONE → (u.buf x.retx).loc = .off →
        Answers (exec (.connUpdate k) s) fun t =>
          Reports s t 0x57 0 0 ∧
            t.conn k.toNat = { u.conn k.toNat with retxDue := false, retxCnt := x.retxCnt + 1 } ∧
            t.chainList OUTBOUND = u.chainList OUTBOUND ++ [x.retx] ∧ SameChainsBut u t [OUTBOUND] ∧
            (t.buf x.retx).loc = .chain OUTBOUND ∧ (t.buf x.retx).len = (u.buf x.retx).len ∧
            (t.buf x.retx).ref = (u.buf x.retx).ref ∧ SameTagsBut u t [x.retx] ∧ SameConnsBut u t k.toNat ∧ SameData s t ∧
            SameSetting s t ∧ t.csa = s.csa ∧ t.slf = s.slf)) ∧
    Answers (exec (.connUpdate 0xFF) s) fun t =>
      let all := (List.range s.build.nconn).foldl (fun u j => if (u.conn j).reg then u.updateSlot j else u) s
      Reports s t 0x57 0 0 ∧ t.bufs = all.bufs ∧ t.chains = all.chains ∧ SameData all t ∧ t.conns = all.conns ∧
        SameSetting s t ∧ t.csa = s.csa ∧ t.slf = s.slf

/-- R280: CONN_TIMEOUT schedules a retransmission while attempts are left, then sets EV_GAVEUP; in any other case it does nothing. -/
def Obligations.TimeoutSchedulesOrGivesUp : Prop :=
  ∀ (s : State) (k : Byte), s.shaped →
    (¬ s.build.hasSlot k → exec (.connTimeout k) s = .next (s.errored 0x58 8)) ∧
    (s.build.hasSlot k →
      let x := s.conn k.toNat
      let waits := x.proto = .tcp ∧ (x.state = .synSent ∨ x.state = .synRcvd) ∧ x.retx ≠ NONE
      let maxatt := s.regs.cfg.extractLsb' 8 4
      (waits → x.retxCnt.toNat < maxatt.toNat →
        Answers (exec (.connTimeout k) s) fun t =>
          Reports s t 0x58 1 0 ∧ t.conn k.toNat = { x with retxDue := true } ∧ OnlySlot s t k.toNat) ∧
      (waits → maxatt.toNat ≤ x.retxCnt.toNat →
        Answers (exec (.connTimeout k) s) fun t =>
          Reports s t 0x58 0 0 ∧ t.conn k.toNat = { x with events := x.events ||| 8 } ∧ OnlySlot s t k.toNat) ∧
      (¬ waits → Answers (exec (.connTimeout k) s) fun t => Reports s t 0x58 0 0 ∧ OnlyRegs s t))

/-! ### Connection slots: accept -/

/-- R290 to R292, R298: what the slot that claims a UDP datagram does with it. -/
def Obligations.AcceptTakesADatagram : Prop :=
  ∀ (s : State) (b : Handle) (k h n : Nat), s.sound → s.build.hasBuffer b → s.hostHeld b →
    s.sniff b = .packet .okay 17 h n → s.firstClaims k b 17 h →
    let x := s.conn k
    let drops (code : Word) :=
      Answers (exec (.connAccept b) s) fun t =>
        Reports s t 0x59 code (BitVec.ofNat 32 k) ∧ ReleasedTo s t b ∧ OnlyPool s t
    (x.state = .closing → drops 4) ∧
    (x.state ≠ .closing → x.listener = true →
      Answers (exec (.connAccept b) s) fun t =>
        Reports s t 0x59 2 (BitVec.ofNat 32 k) ∧ t.conn k = { x with events := x.events ||| 4 } ∧ OnlySlot s t k) ∧
    (x.state ≠ .closing → x.listener = false → n = 8 → drops 3) ∧
    (x.state ≠ .closing → x.listener = false → n ≠ 8 → x.staged ≠ NONE → drops 4) ∧
    (x.state ≠ .closing → x.listener = false → n ≠ 8 → x.staged = NONE →
      Answers (exec (.connAccept b) s) fun t =>
        Reports s t 0x59 1 (BitVec.ofNat 32 k) ∧
          t.conn k = { x with staged := b, soff := BitVec.ofNat 16 (h + 8), events := x.events ||| 4 } ∧
          t.buf b = { s.buf b with loc := .hold } ∧ SameBufsBut s t b ∧ t.chains = s.chains ∧ SameConnsBut s t k ∧
          SameData s t ∧ SameSetting s t ∧ t.csa = s.csa ∧ t.slf = s.slf)

/-- R290, R293 to R299: the handshake, at the slot that claims the segment.  A bare SYN binds a listening slot; a matching SYN-ACK opens a
client and any other segment is dropped; a matching ACK opens a server and goes on as a segment of the open slot (R296, R298), and any
other segment is dropped with an answer due.  A slot that opens gives up its retransmit buffer; that the buffer offered may itself be
that buffer, and stays host-held then, is log entry 11 (DESIGN CHOICE). -/
def Obligations.AcceptAdvancesTheHandshake : Prop :=
  ∀ (s : State) (b : Handle) (k h n : Nat), s.sound → s.build.hasBuffer b → s.hostHeld b →
    s.sniff b = .packet .okay 6 h n → s.firstClaims k b 6 h →
    let x := s.conn k
    let g := s.segment b h n
    let has (m : Byte) := g.fl &&& m ≠ 0
    let answers (code : Word) (y : Conn) (pool : State → Prop) :=
      Answers (exec (.connAccept b) s) fun t =>
        Reports s t 0x59 code (BitVec.ofNat 32 k) ∧ t.conn k = y ∧ SameConnsBut s t k ∧ SameData s t ∧ SameSetting s t ∧
          t.csa = s.csa ∧ t.slf = s.slf ∧ pool t
    let givesUp (t : State) := ∃ u : State, u.build = s.build ∧ RetxGivenUp s u x.retx b ∧ ReleasedTo u t b
    let synAck := has 0x02 ∧ has 0x10 ∧ ¬ has 0x04 ∧ g.ackn = x.sndSeq + 1
    let ack := has 0x10 ∧ g.fl &&& 0x06 = 0 ∧ g.ackn = x.sndSeq + 1
    let server : Conn :=
      { x with sndSeq := x.sndSeq + 1, retx := NONE, synackDue := false, retxDue := false, state := .opened,
               events := x.events ||| 1 }
    let taken : Conn :=
      { server with rcvAck := x.rcvAck + BitVec.ofNat 32 g.plen, ackDue := true, events := x.events ||| 5 }
    (x.state = .listen →
      answers 3 { x with raddr := addrOfBytes (s.srcAddr b), rport := s.srcPort b h, rbound := true, rcvAck := g.seq + 1,
                         state := .synRcvd, synackDue := true, retxCnt := 0 } fun t => ReleasedTo s t b) ∧
    (x.state = .synSent → synAck →
      answers 3 { x with rcvAck := g.seq + 1, sndSeq := x.sndSeq + 1, retx := NONE, synDue := false, retxDue := false,
                         state := .opened, ackDue := true, events := x.events ||| 1 } givesUp) ∧
    (x.state = .synSent → ¬ synAck → answers 4 x fun t => ReleasedTo s t b) ∧
    (x.state = .synRcvd → ¬ ack → answers 4 { x with ackDue := true } fun t => ReleasedTo s t b) ∧
    (x.state = .synRcvd → ack →
      (g.seq ≠ x.rcvAck → answers 4 { server with ackDue := true } givesUp) ∧
      (g.seq = x.rcvAck → g.plen = 0 → answers 3 server givesUp) ∧
      (g.seq = x.rcvAck → g.plen ≠ 0 → x.listener = false → x.staged ≠ NONE → answers 4 server givesUp) ∧
      (g.seq = x.rcvAck → g.plen ≠ 0 → x.listener = true → answers 2 taken fun t => RetxGivenUp s t x.retx b) ∧
      (g.seq = x.rcvAck → g.plen ≠ 0 → x.listener = false → x.staged = NONE →
        answers 1 { taken with staged := b, soff := BitVec.ofNat 16 g.poff } fun t =>
          ∃ u : State, u.build = s.build ∧ RetxGivenUp s u x.retx b ∧ t.buf b = { u.buf b with loc := .hold } ∧
            SameBufsBut u t b ∧ t.chains = u.chains))

/-- R290, R296 to R298: what an open or closing TCP slot does with a segment that it claims. -/
def Obligations.AcceptTakesInOrderData : Prop :=
  ∀ (s : State) (b : Handle) (k h n : Nat), s.sound → s.build.hasBuffer b → s.hostHeld b →
    s.sniff b = .packet .okay 6 h n → s.firstClaims k b 6 h →
    (s.conn k).state = .opened ∨ (s.conn k).state = .closing →
    let x := s.conn k
    let g := s.segment b h n
    let fits := x.state = .opened ∧ g.fl &&& 0x06 = 0 ∧ g.seq = x.rcvAck
    let drops (code : Word) (y : Conn) :=
      Answers (exec (.connAccept b) s) fun t =>
        Reports s t 0x59 code (BitVec.ofNat 32 k) ∧ t.conn k = y ∧ SameConnsBut s t k ∧ ReleasedTo s t b ∧ SameData s t ∧
          SameSetting s t ∧ t.csa = s.csa ∧ t.slf = s.slf
    (x.state = .closing → drops 4 x) ∧
    (x.state = .opened → ¬ fits → drops 4 { x with ackDue := true }) ∧
    (fits → g.plen = 0 → drops 3 x) ∧
    (fits → g.plen ≠ 0 → x.listener = false → x.staged ≠ NONE → drops 4 x) ∧
    (fits → g.plen ≠ 0 → x.listener = true →
      Answers (exec (.connAccept b) s) fun t =>
        Reports s t 0x59 2 (BitVec.ofNat 32 k) ∧
          t.conn k = { x with rcvAck := x.rcvAck + BitVec.ofNat 32 g.plen, ackDue := true, events := x.events ||| 4 } ∧
          OnlySlot s t k) ∧
    (fits → g.plen ≠ 0 → x.listener = false → x.staged = NONE →
      Answers (exec (.connAccept b) s) fun t =>
        Reports s t 0x59 1 (BitVec.ofNat 32 k) ∧
          t.conn k =
            { x with rcvAck := x.rcvAck + BitVec.ofNat 32 g.plen, ackDue := true, staged := b,
                     soff := BitVec.ofNat 16 g.poff, events := x.events ||| 4 } ∧
          t.buf b = { s.buf b with loc := .hold } ∧ SameBufsBut s t b ∧ t.chains = s.chains ∧ SameConnsBut s t k ∧
          SameData s t ∧ SameSetting s t ∧ t.csa = s.csa ∧ t.slf = s.slf)

/-- R290, R291, R293, R302 item 1: a buffer that is no valid packet, or that every slot rejects (a listening slot rejects all but a bare
SYN), is rejected and nothing changes; a claimed buffer is claimed by the first slot that does not reject it, which RES1 names, and no
other slot changes. -/
def Obligations.AcceptIsExclusive : Prop :=
  ∀ (s : State) (b : Handle), s.shaped →
    (¬ s.build.hasBuffer b → exec (.connAccept b) s = .next (s.errored 0x59 2)) ∧
    (s.build.hasBuffer b → ¬ s.hostHeld b → exec (.connAccept b) s = .next (s.errored 0x59 4)) ∧
    (s.build.hasBuffer b → s.hostHeld b →
      (∀ p h n, s.sniff b = .packet .okay p h n → ∀ j, j < s.build.nconn → ¬ s.claims j b p h) →
      Answers (exec (.connAccept b) s) fun t => Reports s t 0x59 0 0 ∧ OnlyRegs s t) ∧
    ∀ t, exec (.connAccept b) s = .next t → t.regs.err = 0 → t.regs.res0 ≠ 0 →
      ∃ p h n, s.sniff b = .packet .okay p h n ∧ ∃ k, t.regs.res1 = BitVec.ofNat 32 k ∧ k < s.build.nconn ∧
        s.claims k b p h ∧ (s.sound → ∀ j, j < k → ¬ s.claims j b p h) ∧ SameConnsBut s t k
end

