-- ==== Sys2Proof/Laws/State.lean ====
section
/-! SUPPORT. What each single update of the state leaves as it was: one lemma for each field, true by unfolding, so that no proof
unfolds a record update. -/

namespace Sys2Proof.Machine

variable (s : State)


/-! ### `State.finish` -/

@[simp] theorem State.finish_build (op err : Byte) (r0 r1 : Word) : (s.finish op err r0 r1).build = s.build := rfl
@[simp] theorem State.finish_csa (op err : Byte) (r0 r1 : Word) : (s.finish op err r0 r1).csa = s.csa := rfl
@[simp] theorem State.finish_bufs (op err : Byte) (r0 r1 : Word) : (s.finish op err r0 r1).bufs = s.bufs := rfl
@[simp] theorem State.finish_mem (op err : Byte) (r0 r1 : Word) : (s.finish op err r0 r1).mem = s.mem := rfl
@[simp] theorem State.finish_draw (op err : Byte) (r0 r1 : Word) : (s.finish op err r0 r1).draw = s.draw := rfl
@[simp] theorem State.finish_chains (op err : Byte) (r0 r1 : Word) : (s.finish op err r0 r1).chains = s.chains := rfl
@[simp] theorem State.finish_slf (op err : Byte) (r0 r1 : Word) : (s.finish op err r0 r1).slf = s.slf := rfl
@[simp] theorem State.finish_conns (op err : Byte) (r0 r1 : Word) : (s.finish op err r0 r1).conns = s.conns := rfl
@[simp] theorem State.finish_input (op err : Byte) (r0 r1 : Word) : (s.finish op err r0 r1).input = s.input := rfl
@[simp] theorem State.finish_readData (op err : Byte) (r0 r1 : Word) : (s.finish op err r0 r1).readData = s.readData := rfl

/-! ### `State.raiseError` -/

@[simp] theorem State.raiseError_build (op : Byte) (e : CmdError) : (s.raiseError op e).build = s.build := rfl
@[simp] theorem State.raiseError_csa (op : Byte) (e : CmdError) : (s.raiseError op e).csa = s.csa := rfl
@[simp] theorem State.raiseError_bufs (op : Byte) (e : CmdError) : (s.raiseError op e).bufs = s.bufs := rfl
@[simp] theorem State.raiseError_mem (op : Byte) (e : CmdError) : (s.raiseError op e).mem = s.mem := rfl
@[simp] theorem State.raiseError_draw (op : Byte) (e : CmdError) : (s.raiseError op e).draw = s.draw := rfl
@[simp] theorem State.raiseError_chains (op : Byte) (e : CmdError) : (s.raiseError op e).chains = s.chains := rfl
@[simp] theorem State.raiseError_slf (op : Byte) (e : CmdError) : (s.raiseError op e).slf = s.slf := rfl
@[simp] theorem State.raiseError_conns (op : Byte) (e : CmdError) : (s.raiseError op e).conns = s.conns := rfl
@[simp] theorem State.raiseError_input (op : Byte) (e : CmdError) : (s.raiseError op e).input = s.input := rfl
@[simp] theorem State.raiseError_readData (op : Byte) (e : CmdError) : (s.raiseError op e).readData = s.readData := rfl

/-! ### `State.writeBytes` -/

@[simp] theorem State.writeBytes_build (b : Handle) (o : Nat) (d : List Byte) : (s.writeBytes b o d).build = s.build := rfl
@[simp] theorem State.writeBytes_regs (b : Handle) (o : Nat) (d : List Byte) : (s.writeBytes b o d).regs = s.regs := rfl
@[simp] theorem State.writeBytes_csa (b : Handle) (o : Nat) (d : List Byte) : (s.writeBytes b o d).csa = s.csa := rfl
@[simp] theorem State.writeBytes_bufs (b : Handle) (o : Nat) (d : List Byte) : (s.writeBytes b o d).bufs = s.bufs := rfl
@[simp] theorem State.writeBytes_draw (b : Handle) (o : Nat) (d : List Byte) : (s.writeBytes b o d).draw = s.draw := rfl
@[simp] theorem State.writeBytes_chains (b : Handle) (o : Nat) (d : List Byte) : (s.writeBytes b o d).chains = s.chains := rfl
@[simp] theorem State.writeBytes_slf (b : Handle) (o : Nat) (d : List Byte) : (s.writeBytes b o d).slf = s.slf := rfl
@[simp] theorem State.writeBytes_conns (b : Handle) (o : Nat) (d : List Byte) : (s.writeBytes b o d).conns = s.conns := rfl
@[simp] theorem State.writeBytes_input (b : Handle) (o : Nat) (d : List Byte) : (s.writeBytes b o d).input = s.input := rfl
@[simp] theorem State.writeBytes_readData (b : Handle) (o : Nat) (d : List Byte) : (s.writeBytes b o d).readData = s.readData := rfl

/-! ### `State.memWrite` -/

@[simp] theorem State.memWrite_build (b : Handle) (o n : Nat) (v : Word) : (s.memWrite b o n v).build = s.build := rfl
@[simp] theorem State.memWrite_regs (b : Handle) (o n : Nat) (v : Word) : (s.memWrite b o n v).regs = s.regs := rfl
@[simp] theorem State.memWrite_csa (b : Handle) (o n : Nat) (v : Word) : (s.memWrite b o n v).csa = s.csa := rfl
@[simp] theorem State.memWrite_bufs (b : Handle) (o n : Nat) (v : Word) : (s.memWrite b o n v).bufs = s.bufs := rfl
@[simp] theorem State.memWrite_draw (b : Handle) (o n : Nat) (v : Word) : (s.memWrite b o n v).draw = s.draw := rfl
@[simp] theorem State.memWrite_chains (b : Handle) (o n : Nat) (v : Word) : (s.memWrite b o n v).chains = s.chains := rfl
@[simp] theorem State.memWrite_slf (b : Handle) (o n : Nat) (v : Word) : (s.memWrite b o n v).slf = s.slf := rfl
@[simp] theorem State.memWrite_conns (b : Handle) (o n : Nat) (v : Word) : (s.memWrite b o n v).conns = s.conns := rfl
@[simp] theorem State.memWrite_input (b : Handle) (o n : Nat) (v : Word) : (s.memWrite b o n v).input = s.input := rfl
@[simp] theorem State.memWrite_readData (b : Handle) (o n : Nat) (v : Word) : (s.memWrite b o n v).readData = s.readData := rfl

/-! ### `State.setBuf` -/

@[simp] theorem State.setBuf_build (b : Handle) (f : Buffer → Buffer) : (s.setBuf b f).build = s.build := rfl
@[simp] theorem State.setBuf_regs (b : Handle) (f : Buffer → Buffer) : (s.setBuf b f).regs = s.regs := rfl
@[simp] theorem State.setBuf_csa (b : Handle) (f : Buffer → Buffer) : (s.setBuf b f).csa = s.csa := rfl
@[simp] theorem State.setBuf_mem (b : Handle) (f : Buffer → Buffer) : (s.setBuf b f).mem = s.mem := rfl
@[simp] theorem State.setBuf_draw (b : Handle) (f : Buffer → Buffer) : (s.setBuf b f).draw = s.draw := rfl
@[simp] theorem State.setBuf_chains (b : Handle) (f : Buffer → Buffer) : (s.setBuf b f).chains = s.chains := rfl
@[simp] theorem State.setBuf_slf (b : Handle) (f : Buffer → Buffer) : (s.setBuf b f).slf = s.slf := rfl
@[simp] theorem State.setBuf_conns (b : Handle) (f : Buffer → Buffer) : (s.setBuf b f).conns = s.conns := rfl
@[simp] theorem State.setBuf_input (b : Handle) (f : Buffer → Buffer) : (s.setBuf b f).input = s.input := rfl
@[simp] theorem State.setBuf_readData (b : Handle) (f : Buffer → Buffer) : (s.setBuf b f).readData = s.readData := rfl

/-! ### `State.setLoc` -/

@[simp] theorem State.setLoc_build (b : Handle) (l : Loc) : (s.setLoc b l).build = s.build := rfl
@[simp] theorem State.setLoc_regs (b : Handle) (l : Loc) : (s.setLoc b l).regs = s.regs := rfl
@[simp] theorem State.setLoc_csa (b : Handle) (l : Loc) : (s.setLoc b l).csa = s.csa := rfl
@[simp] theorem State.setLoc_mem (b : Handle) (l : Loc) : (s.setLoc b l).mem = s.mem := rfl
@[simp] theorem State.setLoc_draw (b : Handle) (l : Loc) : (s.setLoc b l).draw = s.draw := rfl
@[simp] theorem State.setLoc_chains (b : Handle) (l : Loc) : (s.setLoc b l).chains = s.chains := rfl
@[simp] theorem State.setLoc_slf (b : Handle) (l : Loc) : (s.setLoc b l).slf = s.slf := rfl
@[simp] theorem State.setLoc_conns (b : Handle) (l : Loc) : (s.setLoc b l).conns = s.conns := rfl
@[simp] theorem State.setLoc_input (b : Handle) (l : Loc) : (s.setLoc b l).input = s.input := rfl
@[simp] theorem State.setLoc_readData (b : Handle) (l : Loc) : (s.setLoc b l).readData = s.readData := rfl

/-! ### `State.setNext` -/

@[simp] theorem State.setNext_build (b h : Handle) : (s.setNext b h).build = s.build := rfl
@[simp] theorem State.setNext_regs (b h : Handle) : (s.setNext b h).regs = s.regs := rfl
@[simp] theorem State.setNext_csa (b h : Handle) : (s.setNext b h).csa = s.csa := rfl
@[simp] theorem State.setNext_mem (b h : Handle) : (s.setNext b h).mem = s.mem := rfl
@[simp] theorem State.setNext_draw (b h : Handle) : (s.setNext b h).draw = s.draw := rfl
@[simp] theorem State.setNext_chains (b h : Handle) : (s.setNext b h).chains = s.chains := rfl
@[simp] theorem State.setNext_slf (b h : Handle) : (s.setNext b h).slf = s.slf := rfl
@[simp] theorem State.setNext_conns (b h : Handle) : (s.setNext b h).conns = s.conns := rfl
@[simp] theorem State.setNext_input (b h : Handle) : (s.setNext b h).input = s.input := rfl
@[simp] theorem State.setNext_readData (b h : Handle) : (s.setNext b h).readData = s.readData := rfl

/-! ### `State.setLength` -/

@[simp] theorem State.setLength_build (b : Handle) (n : Nat) : (s.setLength b n).build = s.build := rfl
@[simp] theorem State.setLength_regs (b : Handle) (n : Nat) : (s.setLength b n).regs = s.regs := rfl
@[simp] theorem State.setLength_csa (b : Handle) (n : Nat) : (s.setLength b n).csa = s.csa := rfl
@[simp] theorem State.setLength_mem (b : Handle) (n : Nat) : (s.setLength b n).mem = s.mem := rfl
@[simp] theorem State.setLength_draw (b : Handle) (n : Nat) : (s.setLength b n).draw = s.draw := rfl
@[simp] theorem State.setLength_chains (b : Handle) (n : Nat) : (s.setLength b n).chains = s.chains := rfl
@[simp] theorem State.setLength_slf (b : Handle) (n : Nat) : (s.setLength b n).slf = s.slf := rfl
@[simp] theorem State.setLength_conns (b : Handle) (n : Nat) : (s.setLength b n).conns = s.conns := rfl
@[simp] theorem State.setLength_input (b : Handle) (n : Nat) : (s.setLength b n).input = s.input := rfl
@[simp] theorem State.setLength_readData (b : Handle) (n : Nat) : (s.setLength b n).readData = s.readData := rfl

/-! ### `State.setChain` -/

@[simp] theorem State.setChain_build (c : Nat) (f : Chain → Chain) : (s.setChain c f).build = s.build := rfl
@[simp] theorem State.setChain_regs (c : Nat) (f : Chain → Chain) : (s.setChain c f).regs = s.regs := rfl
@[simp] theorem State.setChain_csa (c : Nat) (f : Chain → Chain) : (s.setChain c f).csa = s.csa := rfl
@[simp] theorem State.setChain_bufs (c : Nat) (f : Chain → Chain) : (s.setChain c f).bufs = s.bufs := rfl
@[simp] theorem State.setChain_mem (c : Nat) (f : Chain → Chain) : (s.setChain c f).mem = s.mem := rfl
@[simp] theorem State.setChain_draw (c : Nat) (f : Chain → Chain) : (s.setChain c f).draw = s.draw := rfl
@[simp] theorem State.setChain_slf (c : Nat) (f : Chain → Chain) : (s.setChain c f).slf = s.slf := rfl
@[simp] theorem State.setChain_conns (c : Nat) (f : Chain → Chain) : (s.setChain c f).conns = s.conns := rfl
@[simp] theorem State.setChain_input (c : Nat) (f : Chain → Chain) : (s.setChain c f).input = s.input := rfl
@[simp] theorem State.setChain_readData (c : Nat) (f : Chain → Chain) : (s.setChain c f).readData = s.readData := rfl

/-! ### `State.setSlip` -/

@[simp] theorem State.setSlip_build (c : Nat) (f : SlipChan → SlipChan) : (s.setSlip c f).build = s.build := rfl
@[simp] theorem State.setSlip_regs (c : Nat) (f : SlipChan → SlipChan) : (s.setSlip c f).regs = s.regs := rfl
@[simp] theorem State.setSlip_csa (c : Nat) (f : SlipChan → SlipChan) : (s.setSlip c f).csa = s.csa := rfl
@[simp] theorem State.setSlip_bufs (c : Nat) (f : SlipChan → SlipChan) : (s.setSlip c f).bufs = s.bufs := rfl
@[simp] theorem State.setSlip_mem (c : Nat) (f : SlipChan → SlipChan) : (s.setSlip c f).mem = s.mem := rfl
@[simp] theorem State.setSlip_draw (c : Nat) (f : SlipChan → SlipChan) : (s.setSlip c f).draw = s.draw := rfl
@[simp] theorem State.setSlip_chains (c : Nat) (f : SlipChan → SlipChan) : (s.setSlip c f).chains = s.chains := rfl
@[simp] theorem State.setSlip_conns (c : Nat) (f : SlipChan → SlipChan) : (s.setSlip c f).conns = s.conns := rfl
@[simp] theorem State.setSlip_input (c : Nat) (f : SlipChan → SlipChan) : (s.setSlip c f).input = s.input := rfl
@[simp] theorem State.setSlip_readData (c : Nat) (f : SlipChan → SlipChan) : (s.setSlip c f).readData = s.readData := rfl

/-! ### `State.setConn` -/

@[simp] theorem State.setConn_build (k : Nat) (f : Conn → Conn) : (s.setConn k f).build = s.build := rfl
@[simp] theorem State.setConn_regs (k : Nat) (f : Conn → Conn) : (s.setConn k f).regs = s.regs := rfl
@[simp] theorem State.setConn_csa (k : Nat) (f : Conn → Conn) : (s.setConn k f).csa = s.csa := rfl
@[simp] theorem State.setConn_bufs (k : Nat) (f : Conn → Conn) : (s.setConn k f).bufs = s.bufs := rfl
@[simp] theorem State.setConn_mem (k : Nat) (f : Conn → Conn) : (s.setConn k f).mem = s.mem := rfl
@[simp] theorem State.setConn_draw (k : Nat) (f : Conn → Conn) : (s.setConn k f).draw = s.draw := rfl
@[simp] theorem State.setConn_chains (k : Nat) (f : Conn → Conn) : (s.setConn k f).chains = s.chains := rfl
@[simp] theorem State.setConn_slf (k : Nat) (f : Conn → Conn) : (s.setConn k f).slf = s.slf := rfl
@[simp] theorem State.setConn_input (k : Nat) (f : Conn → Conn) : (s.setConn k f).input = s.input := rfl
@[simp] theorem State.setConn_readData (k : Nat) (f : Conn → Conn) : (s.setConn k f).readData = s.readData := rfl

/-! ### `State.raiseEvent` -/

@[simp] theorem State.raiseEvent_build (k : Nat) (e : BitVec 4) : (s.raiseEvent k e).build = s.build := rfl
@[simp] theorem State.raiseEvent_regs (k : Nat) (e : BitVec 4) : (s.raiseEvent k e).regs = s.regs := rfl
@[simp] theorem State.raiseEvent_csa (k : Nat) (e : BitVec 4) : (s.raiseEvent k e).csa = s.csa := rfl
@[simp] theorem State.raiseEvent_bufs (k : Nat) (e : BitVec 4) : (s.raiseEvent k e).bufs = s.bufs := rfl
@[simp] theorem State.raiseEvent_mem (k : Nat) (e : BitVec 4) : (s.raiseEvent k e).mem = s.mem := rfl
@[simp] theorem State.raiseEvent_draw (k : Nat) (e : BitVec 4) : (s.raiseEvent k e).draw = s.draw := rfl
@[simp] theorem State.raiseEvent_chains (k : Nat) (e : BitVec 4) : (s.raiseEvent k e).chains = s.chains := rfl
@[simp] theorem State.raiseEvent_slf (k : Nat) (e : BitVec 4) : (s.raiseEvent k e).slf = s.slf := rfl
@[simp] theorem State.raiseEvent_input (k : Nat) (e : BitVec 4) : (s.raiseEvent k e).input = s.input := rfl
@[simp] theorem State.raiseEvent_readData (k : Nat) (e : BitVec 4) : (s.raiseEvent k e).readData = s.readData := rfl

/-! ### `State.setCsa` -/

@[simp] theorem State.setCsa_build (a : Csa) : (s.setCsa a).build = s.build := rfl
@[simp] theorem State.setCsa_regs (a : Csa) : (s.setCsa a).regs = s.regs := rfl
@[simp] theorem State.setCsa_bufs (a : Csa) : (s.setCsa a).bufs = s.bufs := rfl
@[simp] theorem State.setCsa_mem (a : Csa) : (s.setCsa a).mem = s.mem := rfl
@[simp] theorem State.setCsa_draw (a : Csa) : (s.setCsa a).draw = s.draw := rfl
@[simp] theorem State.setCsa_chains (a : Csa) : (s.setCsa a).chains = s.chains := rfl
@[simp] theorem State.setCsa_slf (a : Csa) : (s.setCsa a).slf = s.slf := rfl
@[simp] theorem State.setCsa_conns (a : Csa) : (s.setCsa a).conns = s.conns := rfl
@[simp] theorem State.setCsa_input (a : Csa) : (s.setCsa a).input = s.input := rfl
@[simp] theorem State.setCsa_readData (a : Csa) : (s.setCsa a).readData = s.readData := rfl

/-! ### `State.setArgaddr` -/

@[simp] theorem State.setArgaddr_build (a : AddrWords) : (s.setArgaddr a).build = s.build := rfl
@[simp] theorem State.setArgaddr_csa (a : AddrWords) : (s.setArgaddr a).csa = s.csa := rfl
@[simp] theorem State.setArgaddr_bufs (a : AddrWords) : (s.setArgaddr a).bufs = s.bufs := rfl
@[simp] theorem State.setArgaddr_mem (a : AddrWords) : (s.setArgaddr a).mem = s.mem := rfl
@[simp] theorem State.setArgaddr_draw (a : AddrWords) : (s.setArgaddr a).draw = s.draw := rfl
@[simp] theorem State.setArgaddr_chains (a : AddrWords) : (s.setArgaddr a).chains = s.chains := rfl
@[simp] theorem State.setArgaddr_slf (a : AddrWords) : (s.setArgaddr a).slf = s.slf := rfl
@[simp] theorem State.setArgaddr_conns (a : AddrWords) : (s.setArgaddr a).conns = s.conns := rfl
@[simp] theorem State.setArgaddr_input (a : AddrWords) : (s.setArgaddr a).input = s.input := rfl
@[simp] theorem State.setArgaddr_readData (a : AddrWords) : (s.setArgaddr a).readData = s.readData := rfl

/-! ### `State.setRegs` -/

@[simp] theorem State.setRegs_build (r : HostRegs) : (s.setRegs r).build = s.build := rfl
@[simp] theorem State.setRegs_csa (r : HostRegs) : (s.setRegs r).csa = s.csa := rfl
@[simp] theorem State.setRegs_bufs (r : HostRegs) : (s.setRegs r).bufs = s.bufs := rfl
@[simp] theorem State.setRegs_mem (r : HostRegs) : (s.setRegs r).mem = s.mem := rfl
@[simp] theorem State.setRegs_draw (r : HostRegs) : (s.setRegs r).draw = s.draw := rfl
@[simp] theorem State.setRegs_chains (r : HostRegs) : (s.setRegs r).chains = s.chains := rfl
@[simp] theorem State.setRegs_slf (r : HostRegs) : (s.setRegs r).slf = s.slf := rfl
@[simp] theorem State.setRegs_conns (r : HostRegs) : (s.setRegs r).conns = s.conns := rfl
@[simp] theorem State.setRegs_input (r : HostRegs) : (s.setRegs r).input = s.input := rfl
@[simp] theorem State.setRegs_readData (r : HostRegs) : (s.setRegs r).readData = s.readData := rfl

/-! ### `State.setHostaddr` -/

@[simp] theorem State.setHostaddr_build (a : AddrWords) : (s.setHostaddr a).build = s.build := rfl
@[simp] theorem State.setHostaddr_csa (a : AddrWords) : (s.setHostaddr a).csa = s.csa := rfl
@[simp] theorem State.setHostaddr_bufs (a : AddrWords) : (s.setHostaddr a).bufs = s.bufs := rfl
@[simp] theorem State.setHostaddr_mem (a : AddrWords) : (s.setHostaddr a).mem = s.mem := rfl
@[simp] theorem State.setHostaddr_draw (a : AddrWords) : (s.setHostaddr a).draw = s.draw := rfl
@[simp] theorem State.setHostaddr_chains (a : AddrWords) : (s.setHostaddr a).chains = s.chains := rfl
@[simp] theorem State.setHostaddr_slf (a : AddrWords) : (s.setHostaddr a).slf = s.slf := rfl
@[simp] theorem State.setHostaddr_conns (a : AddrWords) : (s.setHostaddr a).conns = s.conns := rfl
@[simp] theorem State.setHostaddr_input (a : AddrWords) : (s.setHostaddr a).input = s.input := rfl
@[simp] theorem State.setHostaddr_readData (a : AddrWords) : (s.setHostaddr a).readData = s.readData := rfl

/-! ### `State.hostRead` -/

@[simp] theorem State.hostRead_build (o : Nat) : (s.hostRead o).build = s.build := rfl
@[simp] theorem State.hostRead_regs (o : Nat) : (s.hostRead o).regs = s.regs := rfl
@[simp] theorem State.hostRead_csa (o : Nat) : (s.hostRead o).csa = s.csa := rfl
@[simp] theorem State.hostRead_bufs (o : Nat) : (s.hostRead o).bufs = s.bufs := rfl
@[simp] theorem State.hostRead_mem (o : Nat) : (s.hostRead o).mem = s.mem := rfl
@[simp] theorem State.hostRead_draw (o : Nat) : (s.hostRead o).draw = s.draw := rfl
@[simp] theorem State.hostRead_chains (o : Nat) : (s.hostRead o).chains = s.chains := rfl
@[simp] theorem State.hostRead_slf (o : Nat) : (s.hostRead o).slf = s.slf := rfl
@[simp] theorem State.hostRead_conns (o : Nat) : (s.hostRead o).conns = s.conns := rfl
@[simp] theorem State.hostRead_input (o : Nat) : (s.hostRead o).input = s.input := rfl

/-! ### What the updates write -/

@[simp] theorem State.finish_regs (op err : Byte) (r0 r1 : Word) :
    (s.finish op err r0 r1).regs = { s.regs with err := err, lastop := op, res0 := r0, res1 := r1 } := rfl
@[simp] theorem State.raiseError_regs (op : Byte) (e : CmdError) :
    (s.raiseError op e).regs = { s.regs with err := errCode e, lastop := op, res0 := 0, res1 := 0 } := rfl
@[simp] theorem State.setCsa_csa (a : Csa) : (s.setCsa a).csa = a := rfl
@[simp] theorem State.setRegs_regs (r : HostRegs) : (s.setRegs r).regs = r := rfl
@[simp] theorem State.setArgaddr_regs (a : AddrWords) : (s.setArgaddr a).regs = { s.regs with argaddr := a } := rfl
@[simp] theorem State.setHostaddr_regs (a : AddrWords) : (s.setHostaddr a).regs = { s.regs with hostaddr := a } := rfl
@[simp] theorem State.hostRead_readData (o : Nat) : (s.hostRead o).readData = some (s.regRead o) := rfl

/-! ### How a command ends -/

/-- A command that returns `(r0, r1)` answers this next state and no other. -/
theorem State.done_eq_next (op : Byte) (r0 r1 : Word) (t : State) :
    s.done op r0 r1 = .next t ↔ t = s.finish op 0 r0 r1 := by
  simp [State.done, eq_comm]

/-- A command that raises an error answers this next state and no other. -/
theorem State.fail_eq_next (op : Byte) (e : CmdError) (t : State) :
    s.fail op e = .next t ↔ t = s.raiseError op e := by
  simp [State.fail, eq_comm]

/-- Every error has a code from 1 to 11 (R321). -/
theorem errCode_range (e : CmdError) : 1 ≤ (errCode e).toNat ∧ (errCode e).toNat ≤ 11 := by
  cases e <;> decide

end Sys2Proof.Machine
end

