-- ==== Sys2Proof/Laws/Records.lean ====
section
/-! SUPPORT. The records of the units: what reading a record gives after an update of the same or of another record. -/

namespace Sys2Proof.Machine

/-! ### A list with one element updated -/

/-- Updating element `i` of a list leaves every other element alone. -/
theorem getD_modify_ne {α : Type} (l : List α) (f : α → α) (d : α) {i j : Nat} (h : j ≠ i) :
    (l.modify i f).getD j d = l.getD j d := by
  simp [List.getD, Ne.symm h]

/-- Updating element `i` of a list that has it applies the update. -/
theorem getD_modify_same {α : Type} (l : List α) (f : α → α) (d : α) {i : Nat} (h : i < l.length) :
    (l.modify i f).getD i d = f (l.getD i d) := by
  simp [List.getD, h]

/-! ### Buffers -/

/-- The update of a buffer of the pool is what its record then holds. -/
theorem State.buf_setBuf_same (s : State) (b : Handle) (f : Buffer → Buffer) (h : b.toNat < s.bufs.length) :
    (s.setBuf b f).buf b = f (s.buf b) := getD_modify_same _ _ _ h

/-- The update of a buffer leaves every other buffer alone. -/
theorem State.buf_setBuf_ne (s : State) {b c : Handle} (f : Buffer → Buffer) (h : c ≠ b) :
    (s.setBuf b f).buf c = s.buf c :=
  getD_modify_ne _ _ _ fun e => h (BitVec.eq_of_toNat_eq e)

@[simp] theorem State.setBuf_bufs_length (s : State) (b : Handle) (f : Buffer → Buffer) :
    (s.setBuf b f).bufs.length = s.bufs.length := by simp [State.setBuf]

/-! ### Chains -/

/-- The update of a chain is what its registers then hold. -/
theorem State.chain_setChain_same (s : State) (c : Nat) (f : Chain → Chain) (h : c < s.chains.length) :
    (s.setChain c f).chain c = f (s.chain c) := getD_modify_same _ _ _ h

/-- The update of a chain leaves every other chain's registers alone. -/
theorem State.chain_setChain_ne (s : State) {c d : Nat} (f : Chain → Chain) (h : d ≠ c) :
    (s.setChain c f).chain d = s.chain d := getD_modify_ne _ _ _ h

@[simp] theorem State.setChain_chains_length (s : State) (c : Nat) (f : Chain → Chain) :
    (s.setChain c f).chains.length = s.chains.length := by simp [State.setChain]

/-! ### SLIP channels -/

/-- The update of a channel is what its registers then hold. -/
theorem State.slip_setSlip_same (s : State) (c : Nat) (f : SlipChan → SlipChan) (h : c - 1 < s.slf.length) :
    (s.setSlip c f).slip c = f (s.slip c) := getD_modify_same _ _ _ h

/-- The update of a channel leaves every other channel alone. -/
theorem State.slip_setSlip_ne (s : State) {c d : Nat} (f : SlipChan → SlipChan) (hc : 1 ≤ c) (hd : 1 ≤ d) (h : d ≠ c) :
    (s.setSlip c f).slip d = s.slip d := getD_modify_ne _ _ _ (by omega)

@[simp] theorem State.setSlip_slf_length (s : State) (c : Nat) (f : SlipChan → SlipChan) :
    (s.setSlip c f).slf.length = s.slf.length := by simp [State.setSlip]

/-! ### Connection slots -/

/-- The update of a slot is what its record then holds. -/
theorem State.conn_setConn_same (s : State) (k : Nat) (f : Conn → Conn) (h : k < s.conns.length) :
    (s.setConn k f).conn k = f (s.conn k) := getD_modify_same _ _ _ h

/-- The update of a slot leaves every other slot alone. -/
theorem State.conn_setConn_ne (s : State) {k j : Nat} (f : Conn → Conn) (h : j ≠ k) :
    (s.setConn k f).conn j = s.conn j := getD_modify_ne _ _ _ h

@[simp] theorem State.setConn_conns_length (s : State) (k : Nat) (f : Conn → Conn) :
    (s.setConn k f).conns.length = s.conns.length := by simp [State.setConn]

/-! ### Records that do not move -/

/-- A state with the same buffer records gives the same record for every handle. -/
theorem State.buf_congr {s t : State} (h : t.bufs = s.bufs) (b : Handle) : t.buf b = s.buf b := by simp [State.buf, h]

/-- A state with the same chain registers gives the same registers for every chain. -/
theorem State.chain_congr {s t : State} (h : t.chains = s.chains) (c : Nat) : t.chain c = s.chain c := by
  simp [State.chain, h]

/-- A state with the same channels gives the same registers for every channel. -/
theorem State.slip_congr {s t : State} (h : t.slf = s.slf) (c : Nat) : t.slip c = s.slip c := by simp [State.slip, h]

/-- A state with the same slots gives the same record for every slot. -/
theorem State.conn_congr {s t : State} (h : t.conns = s.conns) (k : Nat) : t.conn k = s.conn k := by
  simp [State.conn, h]

end Sys2Proof.Machine
end

