-- ==== Sys2Proof/Laws/Pool.lean ====
section
/-! SUPPORT. The shared operations of the pool (40_pool.md R110 to R115) and of the slots (44_connection.md R242 to R245, R260): what each can
do, said once, and what each leaves as it was. -/

namespace Sys2Proof.Machine

variable (s : State)

/-! ### `PushTail` (R110) -/

@[simp] theorem State.pushTail_build (c : Nat) (b : Handle) : (s.pushTail c b).build = s.build := by
  unfold State.pushTail; dsimp only; split <;> simp
@[simp] theorem State.pushTail_regs (c : Nat) (b : Handle) : (s.pushTail c b).regs = s.regs := by
  unfold State.pushTail; dsimp only; split <;> simp
@[simp] theorem State.pushTail_csa (c : Nat) (b : Handle) : (s.pushTail c b).csa = s.csa := by
  unfold State.pushTail; dsimp only; split <;> simp
@[simp] theorem State.pushTail_mem (c : Nat) (b : Handle) : (s.pushTail c b).mem = s.mem := by
  unfold State.pushTail; dsimp only; split <;> simp
@[simp] theorem State.pushTail_draw (c : Nat) (b : Handle) : (s.pushTail c b).draw = s.draw := by
  unfold State.pushTail; dsimp only; split <;> simp
@[simp] theorem State.pushTail_slf (c : Nat) (b : Handle) : (s.pushTail c b).slf = s.slf := by
  unfold State.pushTail; dsimp only; split <;> simp
@[simp] theorem State.pushTail_conns (c : Nat) (b : Handle) : (s.pushTail c b).conns = s.conns := by
  unfold State.pushTail; dsimp only; split <;> simp
@[simp] theorem State.pushTail_input (c : Nat) (b : Handle) : (s.pushTail c b).input = s.input := by
  unfold State.pushTail; dsimp only; split <;> simp
@[simp] theorem State.pushTail_readData (c : Nat) (b : Handle) : (s.pushTail c b).readData = s.readData := by
  unfold State.pushTail; dsimp only; split <;> simp

@[simp] theorem State.pushTail_bufs_length (c : Nat) (b : Handle) : (s.pushTail c b).bufs.length = s.bufs.length := by
  unfold State.pushTail State.setLoc State.setNext; dsimp only; split <;> simp

@[simp] theorem State.pushTail_chains_length (c : Nat) (b : Handle) :
    (s.pushTail c b).chains.length = s.chains.length := by
  unfold State.pushTail; dsimp only; split <;> simp

/-- `PushTail` leaves the registers of every other chain alone. -/
theorem State.pushTail_chain_ne {c d : Nat} (b : Handle) (h : d ≠ c) : (s.pushTail c b).chain d = s.chain d := by
  unfold State.pushTail; dsimp only; split <;>
    simp [State.chain_congr (State.setLoc_chains _ _ _), State.chain_setChain_ne _ _ h,
      State.chain_congr (State.setNext_chains _ _ _)]

/-- The registers of the chain after `PushTail`. -/
theorem State.pushTail_chain_same {c : Nat} (b : Handle) (h : c < s.chains.length) :
    (s.pushTail c b).chain c =
      { head := if (s.chain c).tail = NONE then b else (s.chain c).head, tail := b, count := (s.chain c).count + 1 } := by
  unfold State.pushTail; dsimp only
  have h0 : (s.setNext b NONE).chain c = s.chain c := State.chain_congr (State.setNext_chains _ _ _) c
  rw [State.chain_congr (State.setLoc_chains _ _ _), h0]
  split
  · rw [State.chain_setChain_same _ _ _ (by simpa using h), State.chain_setChain_same _ _ _ (by simpa using h), h0]
  · rw [State.chain_setChain_same _ _ _ (by simpa using h), State.chain_congr (State.setNext_chains _ _ _), h0]

/-- `PushTail` changes no buffer but the pushed one and the old tail. -/
theorem State.pushTail_buf_ne (c : Nat) {b x : Handle} (h : x ≠ b) (ht : x ≠ (s.chain c).tail) :
    (s.pushTail c b).buf x = s.buf x := by
  unfold State.pushTail; dsimp only
  have h0 : (s.setNext b NONE).chain c = s.chain c := State.chain_congr (State.setNext_chains _ _ _) c
  rw [State.setLoc, State.buf_setBuf_ne _ _ h, State.buf_congr (State.setChain_bufs _ _ _), h0]
  split
  · rw [State.buf_congr (State.setChain_bufs _ _ _), State.setNext, State.buf_setBuf_ne _ _ h]
  · rw [State.setNext, State.buf_setBuf_ne _ _ ht, State.setNext, State.buf_setBuf_ne _ _ h]

/-! ### `PushHead` (R111) -/

@[simp] theorem State.pushHead_build (c : Nat) (b : Handle) : (s.pushHead c b).build = s.build := rfl
@[simp] theorem State.pushHead_regs (c : Nat) (b : Handle) : (s.pushHead c b).regs = s.regs := rfl
@[simp] theorem State.pushHead_csa (c : Nat) (b : Handle) : (s.pushHead c b).csa = s.csa := rfl
@[simp] theorem State.pushHead_mem (c : Nat) (b : Handle) : (s.pushHead c b).mem = s.mem := rfl
@[simp] theorem State.pushHead_draw (c : Nat) (b : Handle) : (s.pushHead c b).draw = s.draw := rfl
@[simp] theorem State.pushHead_slf (c : Nat) (b : Handle) : (s.pushHead c b).slf = s.slf := rfl
@[simp] theorem State.pushHead_conns (c : Nat) (b : Handle) : (s.pushHead c b).conns = s.conns := rfl
@[simp] theorem State.pushHead_input (c : Nat) (b : Handle) : (s.pushHead c b).input = s.input := rfl
@[simp] theorem State.pushHead_readData (c : Nat) (b : Handle) : (s.pushHead c b).readData = s.readData := rfl

@[simp] theorem State.pushHead_bufs_length (c : Nat) (b : Handle) : (s.pushHead c b).bufs.length = s.bufs.length := by
  simp [State.pushHead, State.setLoc, State.setNext]

@[simp] theorem State.pushHead_chains_length (c : Nat) (b : Handle) :
    (s.pushHead c b).chains.length = s.chains.length := by simp [State.pushHead]

/-- `PushHead` leaves the registers of every other chain alone. -/
theorem State.pushHead_chain_ne {c d : Nat} (b : Handle) (h : d ≠ c) : (s.pushHead c b).chain d = s.chain d := by
  simp [State.pushHead, State.chain_congr (State.setLoc_chains _ _ _), State.chain_setChain_ne _ _ h,
    State.chain_congr (State.setNext_chains _ _ _)]

/-- The registers of the chain after `PushHead`. -/
theorem State.pushHead_chain_same {c : Nat} (b : Handle) (h : c < s.chains.length) :
    (s.pushHead c b).chain c =
      { head := b, tail := if (s.chain c).tail = NONE then b else (s.chain c).tail, count := (s.chain c).count + 1 } := by
  simp only [State.pushHead]
  rw [State.chain_congr (State.setLoc_chains _ _ _), State.chain_setChain_same _ _ _ (by simpa using h),
    State.chain_congr (State.setNext_chains _ _ _)]

/-- `PushHead` changes no buffer but the pushed one. -/
theorem State.pushHead_buf_ne (c : Nat) {b x : Handle} (h : x ≠ b) : (s.pushHead c b).buf x = s.buf x := by
  simp only [State.pushHead]
  rw [State.setLoc, State.buf_setBuf_ne _ _ h, State.buf_congr (State.setChain_bufs _ _ _), State.setNext,
    State.buf_setBuf_ne _ _ h]

/-- The pushed buffer after `PushHead`. -/
theorem State.pushHead_buf_same (c : Nat) (b : Handle) (h : b.toNat < s.bufs.length) :
    (s.pushHead c b).buf b = { s.buf b with next := (s.chain c).head, loc := .chain c } := by
  simp only [State.pushHead]
  rw [State.setLoc, State.buf_setBuf_same _ _ _ (by simpa [State.setNext] using h),
    State.buf_congr (State.setChain_bufs _ _ _), State.setNext, State.buf_setBuf_same _ _ _ h]

/-! ### `PopHead`, `TakeSpare`, `Release` (R112, R114, R115) -/

/-- Everything `PopHead` can do: nothing on an empty chain, else unlink the head. -/
theorem State.popHead_cases (c : Nat) :
    ((s.chain c).head = NONE ∧ s.popHead c = (NONE, s)) ∨
      ((s.chain c).head ≠ NONE ∧
        s.popHead c =
          ((s.chain c).head,
            ((s.setChain c fun x =>
              { head := (s.buf (s.chain c).head).next,
                tail := if (s.buf (s.chain c).head).next = NONE then NONE else x.tail,
                count := x.count - 1 }).setNext (s.chain c).head NONE).setLoc (s.chain c).head .off)) := by
  by_cases h : (s.chain c).head = NONE
  · exact .inl ⟨h, by simp [State.popHead, h]⟩
  · exact .inr ⟨h, by simp [State.popHead, h]⟩

/-- Everything `TakeSpare` can do: nothing without a spare, else take the head of SPARE with LEN and CHAN 0. -/
theorem State.takeSpare_cases :
    ((s.chain SPARE).head = NONE ∧ s.takeSpare = (NONE, s)) ∨
      ((s.chain SPARE).head ≠ NONE ∧
        s.takeSpare =
          ((s.chain SPARE).head, (s.popHead SPARE).2.setBuf (s.chain SPARE).head fun x => { x with len := 0, chan := 0 })) := by
  rcases s.popHead_cases SPARE with ⟨h, e⟩ | ⟨h, e⟩
  · exact .inl ⟨h, by simp [State.takeSpare, e]⟩
  · exact .inr ⟨h, by simp [State.takeSpare, e, h]⟩

/-- Everything `Release` can do: nothing to a retained buffer, else put it at the head of SPARE. -/
theorem State.release_cases (b : Handle) :
    ((s.buf b).ref = 0 ∧ s.release b = (true, s.pushHead SPARE b)) ∨ ((s.buf b).ref ≠ 0 ∧ s.release b = (false, s)) := by
  by_cases h : (s.buf b).ref = 0
  · exact .inl ⟨h, by unfold State.release; rw [if_pos h]⟩
  · exact .inr ⟨h, by unfold State.release; rw [if_neg h]⟩

@[simp] theorem State.popHead_build (c : Nat) : (s.popHead c).2.build = s.build := by
  rcases s.popHead_cases c with ⟨_, e⟩ | ⟨_, e⟩ <;> simp [e]
@[simp] theorem State.popHead_regs (c : Nat) : (s.popHead c).2.regs = s.regs := by
  rcases s.popHead_cases c with ⟨_, e⟩ | ⟨_, e⟩ <;> simp [e]
@[simp] theorem State.popHead_csa (c : Nat) : (s.popHead c).2.csa = s.csa := by
  rcases s.popHead_cases c with ⟨_, e⟩ | ⟨_, e⟩ <;> simp [e]
@[simp] theorem State.popHead_mem (c : Nat) : (s.popHead c).2.mem = s.mem := by
  rcases s.popHead_cases c with ⟨_, e⟩ | ⟨_, e⟩ <;> simp [e]
@[simp] theorem State.popHead_draw (c : Nat) : (s.popHead c).2.draw = s.draw := by
  rcases s.popHead_cases c with ⟨_, e⟩ | ⟨_, e⟩ <;> simp [e]
@[simp] theorem State.popHead_slf (c : Nat) : (s.popHead c).2.slf = s.slf := by
  rcases s.popHead_cases c with ⟨_, e⟩ | ⟨_, e⟩ <;> simp [e]
@[simp] theorem State.popHead_conns (c : Nat) : (s.popHead c).2.conns = s.conns := by
  rcases s.popHead_cases c with ⟨_, e⟩ | ⟨_, e⟩ <;> simp [e]
@[simp] theorem State.popHead_input (c : Nat) : (s.popHead c).2.input = s.input := by
  rcases s.popHead_cases c with ⟨_, e⟩ | ⟨_, e⟩ <;> simp [e]
@[simp] theorem State.popHead_readData (c : Nat) : (s.popHead c).2.readData = s.readData := by
  rcases s.popHead_cases c with ⟨_, e⟩ | ⟨_, e⟩ <;> simp [e]

@[simp] theorem State.popHead_bufs_length (c : Nat) : (s.popHead c).2.bufs.length = s.bufs.length := by
  rcases s.popHead_cases c with ⟨_, e⟩ | ⟨_, e⟩ <;> simp [e, State.setLoc, State.setNext]
@[simp] theorem State.popHead_chains_length (c : Nat) : (s.popHead c).2.chains.length = s.chains.length := by
  rcases s.popHead_cases c with ⟨_, e⟩ | ⟨_, e⟩ <;> simp [e]

@[simp] theorem State.takeSpare_build : s.takeSpare.2.build = s.build := by
  rcases s.takeSpare_cases with ⟨_, e⟩ | ⟨_, e⟩ <;> simp [e]
@[simp] theorem State.takeSpare_regs : s.takeSpare.2.regs = s.regs := by
  rcases s.takeSpare_cases with ⟨_, e⟩ | ⟨_, e⟩ <;> simp [e]
@[simp] theorem State.takeSpare_csa : s.takeSpare.2.csa = s.csa := by
  rcases s.takeSpare_cases with ⟨_, e⟩ | ⟨_, e⟩ <;> simp [e]
@[simp] theorem State.takeSpare_mem : s.takeSpare.2.mem = s.mem := by
  rcases s.takeSpare_cases with ⟨_, e⟩ | ⟨_, e⟩ <;> simp [e]
@[simp] theorem State.takeSpare_draw : s.takeSpare.2.draw = s.draw := by
  rcases s.takeSpare_cases with ⟨_, e⟩ | ⟨_, e⟩ <;> simp [e]
@[simp] theorem State.takeSpare_slf : s.takeSpare.2.slf = s.slf := by
  rcases s.takeSpare_cases with ⟨_, e⟩ | ⟨_, e⟩ <;> simp [e]
@[simp] theorem State.takeSpare_conns : s.takeSpare.2.conns = s.conns := by
  rcases s.takeSpare_cases with ⟨_, e⟩ | ⟨_, e⟩ <;> simp [e]
@[simp] theorem State.takeSpare_input : s.takeSpare.2.input = s.input := by
  rcases s.takeSpare_cases with ⟨_, e⟩ | ⟨_, e⟩ <;> simp [e]
@[simp] theorem State.takeSpare_readData : s.takeSpare.2.readData = s.readData := by
  rcases s.takeSpare_cases with ⟨_, e⟩ | ⟨_, e⟩ <;> simp [e]

@[simp] theorem State.takeSpare_bufs_length : s.takeSpare.2.bufs.length = s.bufs.length := by
  rcases s.takeSpare_cases with ⟨_, e⟩ | ⟨_, e⟩ <;> simp [e]
@[simp] theorem State.takeSpare_chains_length : s.takeSpare.2.chains.length = s.chains.length := by
  rcases s.takeSpare_cases with ⟨_, e⟩ | ⟨_, e⟩ <;> simp [e]

@[simp] theorem State.release_build (b : Handle) : (s.release b).2.build = s.build := by
  rcases s.release_cases b with ⟨_, e⟩ | ⟨_, e⟩ <;> simp [e]
@[simp] theorem State.release_regs (b : Handle) : (s.release b).2.regs = s.regs := by
  rcases s.release_cases b with ⟨_, e⟩ | ⟨_, e⟩ <;> simp [e]
@[simp] theorem State.release_csa (b : Handle) : (s.release b).2.csa = s.csa := by
  rcases s.release_cases b with ⟨_, e⟩ | ⟨_, e⟩ <;> simp [e]
@[simp] theorem State.release_mem (b : Handle) : (s.release b).2.mem = s.mem := by
  rcases s.release_cases b with ⟨_, e⟩ | ⟨_, e⟩ <;> simp [e]
@[simp] theorem State.release_draw (b : Handle) : (s.release b).2.draw = s.draw := by
  rcases s.release_cases b with ⟨_, e⟩ | ⟨_, e⟩ <;> simp [e]
@[simp] theorem State.release_slf (b : Handle) : (s.release b).2.slf = s.slf := by
  rcases s.release_cases b with ⟨_, e⟩ | ⟨_, e⟩ <;> simp [e]
@[simp] theorem State.release_conns (b : Handle) : (s.release b).2.conns = s.conns := by
  rcases s.release_cases b with ⟨_, e⟩ | ⟨_, e⟩ <;> simp [e]
@[simp] theorem State.release_input (b : Handle) : (s.release b).2.input = s.input := by
  rcases s.release_cases b with ⟨_, e⟩ | ⟨_, e⟩ <;> simp [e]
@[simp] theorem State.release_readData (b : Handle) : (s.release b).2.readData = s.readData := by
  rcases s.release_cases b with ⟨_, e⟩ | ⟨_, e⟩ <;> simp [e]

@[simp] theorem State.release_bufs_length (b : Handle) : (s.release b).2.bufs.length = s.bufs.length := by
  rcases s.release_cases b with ⟨_, e⟩ | ⟨_, e⟩ <;> simp [e]
@[simp] theorem State.release_chains_length (b : Handle) : (s.release b).2.chains.length = s.chains.length := by
  rcases s.release_cases b with ⟨_, e⟩ | ⟨_, e⟩ <;> simp [e]

/-! ### `Remove` (R113) -/

/-- Everything `Remove` can do: fail where the walk misses the buffer, else unlink it after its predecessor. -/
theorem State.remove_cases (c : Nat) (b : Handle) :
    (s.findPrev b s.build.nbuf NONE (s.chain c).head = none ∧ s.remove c b = none) ∨
      ∃ prev, s.findPrev b s.build.nbuf NONE (s.chain c).head = some prev ∧
        s.remove c b =
          some ((((if prev = NONE then s.setChain c fun x => { x with head := (s.buf b).next }
            else s.setNext prev (s.buf b).next).setChain c fun x =>
              { x with tail := if x.tail = b then prev else x.tail, count := x.count - 1 }).setNext b NONE).setLoc b .off) := by
  unfold State.remove
  cases h : s.findPrev b s.build.nbuf NONE (s.chain c).head with
  | none => exact .inl ⟨rfl, rfl⟩
  | some prev => exact .inr ⟨prev, rfl, rfl⟩

/-! ### `ReleaseStaged` and `ReleaseRetx` (R242, R243) -/

/-- A slot without a staged buffer has nothing to release. -/
theorem State.releaseStaged_none (k : Nat) (h : (s.conn k).staged = NONE) : s.releaseStaged k = s := by
  simp [State.releaseStaged, h]

/-- A slot without a retransmit buffer has nothing to release. -/
theorem State.releaseRetx_none (k : Nat) (h : (s.conn k).retx = NONE) : s.releaseRetx k = s := by
  simp [State.releaseRetx, h]

@[simp] theorem State.releaseStaged_build (k : Nat) : (s.releaseStaged k).build = s.build := by
  unfold State.releaseStaged; dsimp only; split <;> simp
@[simp] theorem State.releaseStaged_regs (k : Nat) : (s.releaseStaged k).regs = s.regs := by
  unfold State.releaseStaged; dsimp only; split <;> simp
@[simp] theorem State.releaseStaged_csa (k : Nat) : (s.releaseStaged k).csa = s.csa := by
  unfold State.releaseStaged; dsimp only; split <;> simp
@[simp] theorem State.releaseStaged_mem (k : Nat) : (s.releaseStaged k).mem = s.mem := by
  unfold State.releaseStaged; dsimp only; split <;> simp
@[simp] theorem State.releaseStaged_draw (k : Nat) : (s.releaseStaged k).draw = s.draw := by
  unfold State.releaseStaged; dsimp only; split <;> simp
@[simp] theorem State.releaseStaged_slf (k : Nat) : (s.releaseStaged k).slf = s.slf := by
  unfold State.releaseStaged; dsimp only; split <;> simp
@[simp] theorem State.releaseStaged_input (k : Nat) : (s.releaseStaged k).input = s.input := by
  unfold State.releaseStaged; dsimp only; split <;> simp
@[simp] theorem State.releaseStaged_readData (k : Nat) : (s.releaseStaged k).readData = s.readData := by
  unfold State.releaseStaged; dsimp only; split <;> simp
/-- Everything `dropRef` can do: nothing to a buffer without references, else REF becomes one less. -/
theorem State.dropRef_cases (b : Handle) :
    ((s.buf b).ref = 0 ∧ s.dropRef b = s) ∨
      ((s.buf b).ref ≠ 0 ∧ s.dropRef b = s.setBuf b fun x => { x with ref := x.ref - 1 }) := by
  unfold State.dropRef; split
  · exact .inl ⟨‹_›, rfl⟩
  · exact .inr ⟨‹_›, rfl⟩

@[simp] theorem State.dropRef_build (b : Handle) : (s.dropRef b).build = s.build := by
  unfold State.dropRef; split <;> simp
@[simp] theorem State.dropRef_regs (b : Handle) : (s.dropRef b).regs = s.regs := by
  unfold State.dropRef; split <;> simp
@[simp] theorem State.dropRef_csa (b : Handle) : (s.dropRef b).csa = s.csa := by
  unfold State.dropRef; split <;> simp
@[simp] theorem State.dropRef_mem (b : Handle) : (s.dropRef b).mem = s.mem := by
  unfold State.dropRef; split <;> simp
@[simp] theorem State.dropRef_draw (b : Handle) : (s.dropRef b).draw = s.draw := by
  unfold State.dropRef; split <;> simp
@[simp] theorem State.dropRef_slf (b : Handle) : (s.dropRef b).slf = s.slf := by
  unfold State.dropRef; split <;> simp
@[simp] theorem State.dropRef_input (b : Handle) : (s.dropRef b).input = s.input := by
  unfold State.dropRef; split <;> simp
@[simp] theorem State.dropRef_readData (b : Handle) : (s.dropRef b).readData = s.readData := by
  unfold State.dropRef; split <;> simp
@[simp] theorem State.dropRef_chains (b : Handle) : (s.dropRef b).chains = s.chains := by
  unfold State.dropRef; split <;> simp
@[simp] theorem State.dropRef_conns (b : Handle) : (s.dropRef b).conns = s.conns := by
  unfold State.dropRef; split <;> simp
@[simp] theorem State.dropRef_bufs_length (b : Handle) : (s.dropRef b).bufs.length = s.bufs.length := by
  unfold State.dropRef; split <;> simp

@[simp] theorem State.releaseRetx_build (k : Nat) : (s.releaseRetx k).build = s.build := by
  unfold State.releaseRetx; dsimp only; split
  · rfl
  · rw [State.setConn_build]; split <;> simp
@[simp] theorem State.releaseRetx_regs (k : Nat) : (s.releaseRetx k).regs = s.regs := by
  unfold State.releaseRetx; dsimp only; split
  · rfl
  · rw [State.setConn_regs]; split <;> simp
@[simp] theorem State.releaseRetx_csa (k : Nat) : (s.releaseRetx k).csa = s.csa := by
  unfold State.releaseRetx; dsimp only; split
  · rfl
  · rw [State.setConn_csa]; split <;> simp
@[simp] theorem State.releaseRetx_mem (k : Nat) : (s.releaseRetx k).mem = s.mem := by
  unfold State.releaseRetx; dsimp only; split
  · rfl
  · rw [State.setConn_mem]; split <;> simp
@[simp] theorem State.releaseRetx_draw (k : Nat) : (s.releaseRetx k).draw = s.draw := by
  unfold State.releaseRetx; dsimp only; split
  · rfl
  · rw [State.setConn_draw]; split <;> simp
@[simp] theorem State.releaseRetx_slf (k : Nat) : (s.releaseRetx k).slf = s.slf := by
  unfold State.releaseRetx; dsimp only; split
  · rfl
  · rw [State.setConn_slf]; split <;> simp
@[simp] theorem State.releaseRetx_input (k : Nat) : (s.releaseRetx k).input = s.input := by
  unfold State.releaseRetx; dsimp only; split
  · rfl
  · rw [State.setConn_input]; split <;> simp
@[simp] theorem State.releaseRetx_readData (k : Nat) : (s.releaseRetx k).readData = s.readData := by
  unfold State.releaseRetx; dsimp only; split
  · rfl
  · rw [State.setConn_readData]; split <;> simp
@[simp] theorem State.resetSlot_build (k : Nat) : (s.resetSlot k).build = s.build := by simp [State.resetSlot]
@[simp] theorem State.resetSlot_regs (k : Nat) : (s.resetSlot k).regs = s.regs := by simp [State.resetSlot]
@[simp] theorem State.resetSlot_csa (k : Nat) : (s.resetSlot k).csa = s.csa := by simp [State.resetSlot]
@[simp] theorem State.resetSlot_mem (k : Nat) : (s.resetSlot k).mem = s.mem := by simp [State.resetSlot]
@[simp] theorem State.resetSlot_draw (k : Nat) : (s.resetSlot k).draw = s.draw := by simp [State.resetSlot]
@[simp] theorem State.resetSlot_slf (k : Nat) : (s.resetSlot k).slf = s.slf := by simp [State.resetSlot]
@[simp] theorem State.resetSlot_input (k : Nat) : (s.resetSlot k).input = s.input := by simp [State.resetSlot]
@[simp] theorem State.resetSlot_readData (k : Nat) : (s.resetSlot k).readData = s.readData := by simp [State.resetSlot]

/-! ### `Refill` (R260) -/

/-- A slot without a staged buffer has nothing to refill from. -/
theorem State.refill_none (k : Nat) (h : (s.conn k).staged = NONE) : s.refill k = s := by
  simp [State.refill, h]

@[simp] theorem State.refill_build (k : Nat) : (s.refill k).build = s.build := by
  unfold State.refill; dsimp only; split
  · rfl
  · split <;> simp
@[simp] theorem State.refill_regs (k : Nat) : (s.refill k).regs = s.regs := by
  unfold State.refill; dsimp only; split
  · rfl
  · split <;> simp
@[simp] theorem State.refill_csa (k : Nat) : (s.refill k).csa = s.csa := by
  unfold State.refill; dsimp only; split
  · rfl
  · split <;> simp
@[simp] theorem State.refill_mem (k : Nat) : (s.refill k).mem = s.mem := by
  unfold State.refill; dsimp only; split
  · rfl
  · split <;> simp
@[simp] theorem State.refill_draw (k : Nat) : (s.refill k).draw = s.draw := by
  unfold State.refill; dsimp only; split
  · rfl
  · split <;> simp
@[simp] theorem State.refill_slf (k : Nat) : (s.refill k).slf = s.slf := by
  unfold State.refill; dsimp only; split
  · rfl
  · split <;> simp
@[simp] theorem State.refill_input (k : Nat) : (s.refill k).input = s.input := by
  unfold State.refill; dsimp only; split
  · rfl
  · split <;> simp
@[simp] theorem State.refill_readData (k : Nat) : (s.refill k).readData = s.readData := by
  unfold State.refill; dsimp only; split
  · rfl
  · split <;> simp

end Sys2Proof.Machine
end

