-- ==== Sys2Proof/Laws/Accept.lean ====
section
/-! SUPPORT. The receive side (44_connection.md R290 to R298): which slot claims a buffer, what a claim does to the slot's retransmit buffer, and
what each leaves as it was. -/

namespace Sys2Proof.Machine

variable (s : State)

/-! ### `Deliver` and the drops (R295, R296, R298) -/

/-- Everything `Deliver` can do: hand the whole buffer to the listener, consume an empty one, drop one where another is staged, or stage it. -/
theorem State.deliver_cases (k : Nat) (b : Handle) (poff plen : Nat) :
    ((s.conn k).listener = true ∧ s.deliver k b poff plen = (.deliver, s.raiseEvent k evData)) ∨
      ((s.conn k).listener = false ∧ plen = 0 ∧ s.deliver k b poff plen = (.consumed, s)) ∨
      ((s.conn k).listener = false ∧ plen ≠ 0 ∧ (s.conn k).staged ≠ NONE ∧ s.deliver k b poff plen = (.dropped, s)) ∨
      ((s.conn k).listener = false ∧ plen ≠ 0 ∧ (s.conn k).staged = NONE ∧
        s.deliver k b poff plen =
          (.staged, (s.setConn k fun y =>
            { y with staged := b, soff := BitVec.ofNat 16 poff, events := y.events ||| evData }).setLoc b .hold)) := by
  unfold State.deliver
  by_cases hl : (s.conn k).listener = true <;> by_cases hp : plen = 0 <;> by_cases hs : (s.conn k).staged = NONE <;>
    simp [hl, hp, hs]

/-! ### `ReleaseRetx` while a buffer is offered (R242, log entry 11) -/

/-- A slot whose retransmit buffer is the one offered drops its reference, and the buffer stays where it is. -/
theorem State.releaseRetxOffered_own (k : Nat) (b : Handle) (h : (s.conn k).retx = b) :
    s.releaseRetxOffered k b = (s.dropRef b).setConn k fun x => { x with retx := NONE } := by
  simp [State.releaseRetxOffered, h]

/-- Every other slot does `ReleaseRetx`. -/
theorem State.releaseRetxOffered_other (k : Nat) (b : Handle) (h : (s.conn k).retx ≠ b) :
    s.releaseRetxOffered k b = s.releaseRetx k := by
  simp [State.releaseRetxOffered, h]

@[simp] theorem State.releaseRetxOffered_build (k : Nat) (b : Handle) : (s.releaseRetxOffered k b).build = s.build := by
  unfold State.releaseRetxOffered; split <;> simp
@[simp] theorem State.releaseRetxOffered_regs (k : Nat) (b : Handle) : (s.releaseRetxOffered k b).regs = s.regs := by
  unfold State.releaseRetxOffered; split <;> simp
@[simp] theorem State.releaseRetxOffered_csa (k : Nat) (b : Handle) : (s.releaseRetxOffered k b).csa = s.csa := by
  unfold State.releaseRetxOffered; split <;> simp
@[simp] theorem State.releaseRetxOffered_mem (k : Nat) (b : Handle) : (s.releaseRetxOffered k b).mem = s.mem := by
  unfold State.releaseRetxOffered; split <;> simp
@[simp] theorem State.releaseRetxOffered_draw (k : Nat) (b : Handle) : (s.releaseRetxOffered k b).draw = s.draw := by
  unfold State.releaseRetxOffered; split <;> simp
@[simp] theorem State.releaseRetxOffered_slf (k : Nat) (b : Handle) : (s.releaseRetxOffered k b).slf = s.slf := by
  unfold State.releaseRetxOffered; split <;> simp
@[simp] theorem State.releaseRetxOffered_input (k : Nat) (b : Handle) : (s.releaseRetxOffered k b).input = s.input := by
  unfold State.releaseRetxOffered; split <;> simp
@[simp] theorem State.releaseRetxOffered_readData (k : Nat) (b : Handle) : (s.releaseRetxOffered k b).readData = s.readData := by
  unfold State.releaseRetxOffered; split <;> simp
@[simp] theorem State.deliver_build (k : Nat) (b : Handle) (poff plen : Nat) : (s.deliver k b poff plen).2.build = s.build := by
  rcases s.deliver_cases k b poff plen with ⟨_, e⟩ | ⟨_, _, e⟩ | ⟨_, _, _, e⟩ | ⟨_, _, _, e⟩ <;> simp [e]
@[simp] theorem State.deliver_regs (k : Nat) (b : Handle) (poff plen : Nat) : (s.deliver k b poff plen).2.regs = s.regs := by
  rcases s.deliver_cases k b poff plen with ⟨_, e⟩ | ⟨_, _, e⟩ | ⟨_, _, _, e⟩ | ⟨_, _, _, e⟩ <;> simp [e]
@[simp] theorem State.deliver_csa (k : Nat) (b : Handle) (poff plen : Nat) : (s.deliver k b poff plen).2.csa = s.csa := by
  rcases s.deliver_cases k b poff plen with ⟨_, e⟩ | ⟨_, _, e⟩ | ⟨_, _, _, e⟩ | ⟨_, _, _, e⟩ <;> simp [e]
@[simp] theorem State.deliver_mem (k : Nat) (b : Handle) (poff plen : Nat) : (s.deliver k b poff plen).2.mem = s.mem := by
  rcases s.deliver_cases k b poff plen with ⟨_, e⟩ | ⟨_, _, e⟩ | ⟨_, _, _, e⟩ | ⟨_, _, _, e⟩ <;> simp [e]
@[simp] theorem State.deliver_draw (k : Nat) (b : Handle) (poff plen : Nat) : (s.deliver k b poff plen).2.draw = s.draw := by
  rcases s.deliver_cases k b poff plen with ⟨_, e⟩ | ⟨_, _, e⟩ | ⟨_, _, _, e⟩ | ⟨_, _, _, e⟩ <;> simp [e]
@[simp] theorem State.deliver_slf (k : Nat) (b : Handle) (poff plen : Nat) : (s.deliver k b poff plen).2.slf = s.slf := by
  rcases s.deliver_cases k b poff plen with ⟨_, e⟩ | ⟨_, _, e⟩ | ⟨_, _, _, e⟩ | ⟨_, _, _, e⟩ <;> simp [e]
@[simp] theorem State.deliver_input (k : Nat) (b : Handle) (poff plen : Nat) : (s.deliver k b poff plen).2.input = s.input := by
  rcases s.deliver_cases k b poff plen with ⟨_, e⟩ | ⟨_, _, e⟩ | ⟨_, _, _, e⟩ | ⟨_, _, _, e⟩ <;> simp [e]
@[simp] theorem State.deliver_readData (k : Nat) (b : Handle) (poff plen : Nat) : (s.deliver k b poff plen).2.readData = s.readData := by
  rcases s.deliver_cases k b poff plen with ⟨_, e⟩ | ⟨_, _, e⟩ | ⟨_, _, _, e⟩ | ⟨_, _, _, e⟩ <;> simp [e]

/-! ### Offering a buffer to the slots (R290) -/

/-- Nobody claims the buffer exactly when every registered slot answers REJECT. -/
theorem State.offer_eq_none (b : Handle) (p : Byte) (h n : Nat) (ks : List Nat) :
    s.offer b p h n ks = none ↔ ∀ k ∈ ks, (s.conn k).reg = true → s.claim k b p h n = none := by
  induction ks with
  | nil => simp [State.offer]
  | cons k ks ih =>
    rw [State.offer, List.forall_mem_cons, ← ih]
    by_cases hr : (s.conn k).reg = true <;> try simp only [hr, if_true, forall_const]
    · cases s.claim k b p h n <;> simp
    · simp

/-- The slot that claims the buffer is the first registered one that does not answer REJECT. -/
theorem State.offer_eq_some (b : Handle) (p : Byte) (h n : Nat) (ks : List Nat) (k : Nat) (r : Claim × State) :
    s.offer b p h n ks = some (k, r) ↔
      ∃ before after, ks = before ++ k :: after ∧ (s.conn k).reg = true ∧ s.claim k b p h n = some r ∧
        ∀ j ∈ before, (s.conn j).reg = true → s.claim j b p h n = none := by
  constructor
  · intro e
    induction ks with
    | nil => cases e
    | cons j ks ih =>
      have skip : s.offer b p h n ks = some (k, r) → ((s.conn j).reg = true → s.claim j b p h n = none) →
          ∃ before after, j :: ks = before ++ k :: after ∧ (s.conn k).reg = true ∧ s.claim k b p h n = some r ∧
            ∀ i ∈ before, (s.conn i).reg = true → s.claim i b p h n = none := fun e' hj => by
        obtain ⟨before, after, rfl, hr, hc, hb⟩ := ih e'
        exact ⟨j :: before, after, rfl, hr, hc, List.forall_mem_cons.2 ⟨hj, hb⟩⟩
      rw [State.offer] at e
      split at e
      · next hr =>
        split at e
        · next hc =>
          cases e
          exact ⟨[], ks, rfl, hr, hc, by simp⟩
        · next hc => exact skip e fun _ => hc
      · next hr => exact skip e fun h => absurd h hr
  · rintro ⟨before, after, rfl, hr, hc, hb⟩
    induction before with
    | nil => simp [State.offer, hr, hc]
    | cons j before ih =>
      obtain ⟨hj, hb⟩ := List.forall_mem_cons.1 hb
      rw [List.cons_append, State.offer]
      split
      · next h => simpa [hj h] using ih hb
      · exact ih hb

end Sys2Proof.Machine
end

