-- ==== Sys2Proof/Laws/Decode.lean ====
section
/-! SUPPORT. The three fields of a command word (30_encoding.md R90): each is read back from the word that the fields make up. -/

namespace Sys2Proof

/-- OP of `OP << 24 | A << 16 | B`. -/
@[simp] theorem opField_append (op a : Byte) (b : Half) : opField (op ++ a ++ b) = op := by
  apply BitVec.eq_of_toNat_eq
  simp only [opField, BitVec.extractLsb'_toNat, BitVec.toNat_append, Nat.shiftRight_eq_div_pow, Nat.shiftLeft_eq]
  rw [← Nat.shiftLeft_eq, ← Nat.shiftLeft_eq, ← Nat.shiftLeft_add_eq_or_of_lt b.isLt,
    ← Nat.shiftLeft_add_eq_or_of_lt a.isLt, Nat.shiftLeft_eq, Nat.shiftLeft_eq]
  have := op.isLt; have := a.isLt; have := b.isLt
  omega

/-- A of `OP << 24 | A << 16 | B`. -/
@[simp] theorem aField_append (op a : Byte) (b : Half) : aField (op ++ a ++ b) = a := by
  apply BitVec.eq_of_toNat_eq
  simp only [aField, BitVec.extractLsb'_toNat, BitVec.toNat_append, Nat.shiftRight_eq_div_pow, Nat.shiftLeft_eq]
  rw [← Nat.shiftLeft_eq, ← Nat.shiftLeft_eq, ← Nat.shiftLeft_add_eq_or_of_lt b.isLt,
    ← Nat.shiftLeft_add_eq_or_of_lt a.isLt, Nat.shiftLeft_eq, Nat.shiftLeft_eq]
  have := op.isLt; have := a.isLt; have := b.isLt
  omega

/-- B of `OP << 24 | A << 16 | B`. -/
@[simp] theorem bField_append (op a : Byte) (b : Half) : bField (op ++ a ++ b) = b := by
  apply BitVec.eq_of_toNat_eq
  simp only [bField, BitVec.extractLsb'_toNat, BitVec.toNat_append, Nat.shiftRight_eq_div_pow, Nat.shiftLeft_eq]
  rw [← Nat.shiftLeft_eq, ← Nat.shiftLeft_eq, ← Nat.shiftLeft_add_eq_or_of_lt b.isLt,
    ← Nat.shiftLeft_add_eq_or_of_lt a.isLt, Nat.shiftLeft_eq, Nat.shiftLeft_eq]
  have := op.isLt; have := a.isLt; have := b.isLt
  omega

/-- B[7:0] is the low byte of B. -/
theorem bLow_eq (w : Word) : bLow w = (bField w).extractLsb' 0 8 := by
  ext i hi
  simp [bLow, bField, BitVec.getElem_extractLsb']

/-- The word of a command holds its opcode in OP. -/
@[simp] theorem opField_encode (i : Instr) : opField (encode i) = i.opcode := opField_append _ _ _

/-- The word of a command holds its A operand in A. -/
@[simp] theorem aField_encode (i : Instr) : aField (encode i) = i.aOperand := aField_append _ _ _

/-- The word of a command holds its B operand in B. -/
@[simp] theorem bField_encode (i : Instr) : bField (encode i) = i.bOperand := bField_append _ _ _

end Sys2Proof
end

