-- ==== Sys2Proof/Laws/Header.lean ====
section
/-! SUPPORT. The writers of headers (42_header.md R186, R187, R200 to R203): what each leaves as it was.  They change data bytes, and all
but `FillL4Csum` and the reply of PING_TO_PONG also LEN and CHAN of their buffer. -/

namespace Sys2Proof.Machine

variable (s : State)

/-! ### Reading the message of a packet (R178 to R184) -/

/-- Byte `i` of the message at `h` is byte `h + i` of the packet. -/
@[simp] theorem byteAt_drop (d : List Byte) (h i : Nat) : byteAt (d.drop h) i = byteAt d (h + i) := by
  simp [byteAt, List.getD]

/-- The same of a 16-bit field. -/
@[simp] theorem be16At_drop (d : List Byte) (h i : Nat) : be16At (d.drop h) i = be16At d (h + i) := by
  simp [be16At, Nat.add_assoc]

/-- The pseudo-header that sniffing and building use is that of R178, byte by byte. -/
theorem packetPh_eq_wirePh (ipv : IPVersion) (d : List Byte) (h : Nat) (p : Byte) : packetPh ipv d h p = wirePh ipv d h p := by
  cases ipv <;> rfl

/-! ### `buildIp` -/

@[simp] theorem State.buildIp_build (b : Handle) (p : Byte) (n : Nat) (dst : List Byte) : (s.buildIp b p n dst).build = s.build := by
  unfold State.buildIp; cases s.build.ipv <;> simp
@[simp] theorem State.buildIp_regs (b : Handle) (p : Byte) (n : Nat) (dst : List Byte) : (s.buildIp b p n dst).regs = s.regs := by
  unfold State.buildIp; cases s.build.ipv <;> simp
@[simp] theorem State.buildIp_csa (b : Handle) (p : Byte) (n : Nat) (dst : List Byte) : (s.buildIp b p n dst).csa = s.csa := by
  unfold State.buildIp; cases s.build.ipv <;> simp
@[simp] theorem State.buildIp_draw (b : Handle) (p : Byte) (n : Nat) (dst : List Byte) : (s.buildIp b p n dst).draw = s.draw := by
  unfold State.buildIp; cases s.build.ipv <;> simp
@[simp] theorem State.buildIp_chains (b : Handle) (p : Byte) (n : Nat) (dst : List Byte) : (s.buildIp b p n dst).chains = s.chains := by
  unfold State.buildIp; cases s.build.ipv <;> simp
@[simp] theorem State.buildIp_slf (b : Handle) (p : Byte) (n : Nat) (dst : List Byte) : (s.buildIp b p n dst).slf = s.slf := by
  unfold State.buildIp; cases s.build.ipv <;> simp
@[simp] theorem State.buildIp_conns (b : Handle) (p : Byte) (n : Nat) (dst : List Byte) : (s.buildIp b p n dst).conns = s.conns := by
  unfold State.buildIp; cases s.build.ipv <;> simp
@[simp] theorem State.buildIp_input (b : Handle) (p : Byte) (n : Nat) (dst : List Byte) : (s.buildIp b p n dst).input = s.input := by
  unfold State.buildIp; cases s.build.ipv <;> simp
@[simp] theorem State.buildIp_readData (b : Handle) (p : Byte) (n : Nat) (dst : List Byte) : (s.buildIp b p n dst).readData = s.readData := by
  unfold State.buildIp; cases s.build.ipv <;> simp

/-! ### `fillL4Csum` -/

@[simp] theorem State.fillL4Csum_build (b : Handle) (h : Nat) (p : Byte) (f : Nat) (kind : L4Kind) : (s.fillL4Csum b h p f kind).build = s.build := by
  simp [State.fillL4Csum]
@[simp] theorem State.fillL4Csum_regs (b : Handle) (h : Nat) (p : Byte) (f : Nat) (kind : L4Kind) : (s.fillL4Csum b h p f kind).regs = s.regs := by
  simp [State.fillL4Csum]
@[simp] theorem State.fillL4Csum_csa (b : Handle) (h : Nat) (p : Byte) (f : Nat) (kind : L4Kind) : (s.fillL4Csum b h p f kind).csa = s.csa := by
  simp [State.fillL4Csum]
@[simp] theorem State.fillL4Csum_draw (b : Handle) (h : Nat) (p : Byte) (f : Nat) (kind : L4Kind) : (s.fillL4Csum b h p f kind).draw = s.draw := by
  simp [State.fillL4Csum]
@[simp] theorem State.fillL4Csum_chains (b : Handle) (h : Nat) (p : Byte) (f : Nat) (kind : L4Kind) : (s.fillL4Csum b h p f kind).chains = s.chains := by
  simp [State.fillL4Csum]
@[simp] theorem State.fillL4Csum_slf (b : Handle) (h : Nat) (p : Byte) (f : Nat) (kind : L4Kind) : (s.fillL4Csum b h p f kind).slf = s.slf := by
  simp [State.fillL4Csum]
@[simp] theorem State.fillL4Csum_conns (b : Handle) (h : Nat) (p : Byte) (f : Nat) (kind : L4Kind) : (s.fillL4Csum b h p f kind).conns = s.conns := by
  simp [State.fillL4Csum]
@[simp] theorem State.fillL4Csum_input (b : Handle) (h : Nat) (p : Byte) (f : Nat) (kind : L4Kind) : (s.fillL4Csum b h p f kind).input = s.input := by
  simp [State.fillL4Csum]
@[simp] theorem State.fillL4Csum_readData (b : Handle) (h : Nat) (p : Byte) (f : Nat) (kind : L4Kind) : (s.fillL4Csum b h p f kind).readData = s.readData := by
  simp [State.fillL4Csum]
@[simp] theorem State.fillL4Csum_bufs (b : Handle) (h : Nat) (p : Byte) (f : Nat) (kind : L4Kind) : (s.fillL4Csum b h p f kind).bufs = s.bufs := by
  simp [State.fillL4Csum]

/-! ### `buildTcp` -/

@[simp] theorem State.buildTcp_build (b : Handle) (k : Nat) (fl : Byte) (payload : List Byte) : (s.buildTcp b k fl payload).build = s.build := by
  simp [State.buildTcp]
@[simp] theorem State.buildTcp_regs (b : Handle) (k : Nat) (fl : Byte) (payload : List Byte) : (s.buildTcp b k fl payload).regs = s.regs := by
  simp [State.buildTcp]
@[simp] theorem State.buildTcp_csa (b : Handle) (k : Nat) (fl : Byte) (payload : List Byte) : (s.buildTcp b k fl payload).csa = s.csa := by
  simp [State.buildTcp]
@[simp] theorem State.buildTcp_draw (b : Handle) (k : Nat) (fl : Byte) (payload : List Byte) : (s.buildTcp b k fl payload).draw = s.draw := by
  simp [State.buildTcp]
@[simp] theorem State.buildTcp_chains (b : Handle) (k : Nat) (fl : Byte) (payload : List Byte) : (s.buildTcp b k fl payload).chains = s.chains := by
  simp [State.buildTcp]
@[simp] theorem State.buildTcp_slf (b : Handle) (k : Nat) (fl : Byte) (payload : List Byte) : (s.buildTcp b k fl payload).slf = s.slf := by
  simp [State.buildTcp]
@[simp] theorem State.buildTcp_conns (b : Handle) (k : Nat) (fl : Byte) (payload : List Byte) : (s.buildTcp b k fl payload).conns = s.conns := by
  simp [State.buildTcp]
@[simp] theorem State.buildTcp_input (b : Handle) (k : Nat) (fl : Byte) (payload : List Byte) : (s.buildTcp b k fl payload).input = s.input := by
  simp [State.buildTcp]
@[simp] theorem State.buildTcp_readData (b : Handle) (k : Nat) (fl : Byte) (payload : List Byte) : (s.buildTcp b k fl payload).readData = s.readData := by
  simp [State.buildTcp]

/-! ### `buildUdp` -/

@[simp] theorem State.buildUdp_build (b : Handle) (k : Nat) (payload : List Byte) : (s.buildUdp b k payload).build = s.build := by
  simp [State.buildUdp]
@[simp] theorem State.buildUdp_regs (b : Handle) (k : Nat) (payload : List Byte) : (s.buildUdp b k payload).regs = s.regs := by
  simp [State.buildUdp]
@[simp] theorem State.buildUdp_csa (b : Handle) (k : Nat) (payload : List Byte) : (s.buildUdp b k payload).csa = s.csa := by
  simp [State.buildUdp]
@[simp] theorem State.buildUdp_draw (b : Handle) (k : Nat) (payload : List Byte) : (s.buildUdp b k payload).draw = s.draw := by
  simp [State.buildUdp]
@[simp] theorem State.buildUdp_chains (b : Handle) (k : Nat) (payload : List Byte) : (s.buildUdp b k payload).chains = s.chains := by
  simp [State.buildUdp]
@[simp] theorem State.buildUdp_slf (b : Handle) (k : Nat) (payload : List Byte) : (s.buildUdp b k payload).slf = s.slf := by
  simp [State.buildUdp]
@[simp] theorem State.buildUdp_conns (b : Handle) (k : Nat) (payload : List Byte) : (s.buildUdp b k payload).conns = s.conns := by
  simp [State.buildUdp]
@[simp] theorem State.buildUdp_input (b : Handle) (k : Nat) (payload : List Byte) : (s.buildUdp b k payload).input = s.input := by
  simp [State.buildUdp]
@[simp] theorem State.buildUdp_readData (b : Handle) (k : Nat) (payload : List Byte) : (s.buildUdp b k payload).readData = s.readData := by
  simp [State.buildUdp]

/-! ### `makePong` -/

@[simp] theorem State.makePong_build (b : Handle) (h : Nat) : (s.makePong b h).build = s.build := by
  unfold State.makePong; cases s.build.ipv <;> simp
@[simp] theorem State.makePong_regs (b : Handle) (h : Nat) : (s.makePong b h).regs = s.regs := by
  unfold State.makePong; cases s.build.ipv <;> simp
@[simp] theorem State.makePong_csa (b : Handle) (h : Nat) : (s.makePong b h).csa = s.csa := by
  unfold State.makePong; cases s.build.ipv <;> simp
@[simp] theorem State.makePong_draw (b : Handle) (h : Nat) : (s.makePong b h).draw = s.draw := by
  unfold State.makePong; cases s.build.ipv <;> simp
@[simp] theorem State.makePong_chains (b : Handle) (h : Nat) : (s.makePong b h).chains = s.chains := by
  unfold State.makePong; cases s.build.ipv <;> simp
@[simp] theorem State.makePong_slf (b : Handle) (h : Nat) : (s.makePong b h).slf = s.slf := by
  unfold State.makePong; cases s.build.ipv <;> simp
@[simp] theorem State.makePong_conns (b : Handle) (h : Nat) : (s.makePong b h).conns = s.conns := by
  unfold State.makePong; cases s.build.ipv <;> simp
@[simp] theorem State.makePong_input (b : Handle) (h : Nat) : (s.makePong b h).input = s.input := by
  unfold State.makePong; cases s.build.ipv <;> simp
@[simp] theorem State.makePong_readData (b : Handle) (h : Nat) : (s.makePong b h).readData = s.readData := by
  unfold State.makePong; cases s.build.ipv <;> simp
@[simp] theorem State.makePong_bufs (b : Handle) (h : Nat) : (s.makePong b h).bufs = s.bufs := by
  unfold State.makePong; cases s.build.ipv <;> simp

/-! ### `buildEcho` -/

@[simp] theorem State.buildEcho_build (b : Handle) (seq : Half) : (s.buildEcho b seq).build = s.build := by
  simp [State.buildEcho]
@[simp] theorem State.buildEcho_regs (b : Handle) (seq : Half) : (s.buildEcho b seq).regs = s.regs := by
  simp [State.buildEcho]
@[simp] theorem State.buildEcho_csa (b : Handle) (seq : Half) : (s.buildEcho b seq).csa = s.csa := by
  simp [State.buildEcho]
@[simp] theorem State.buildEcho_draw (b : Handle) (seq : Half) : (s.buildEcho b seq).draw = s.draw := by
  simp [State.buildEcho]
@[simp] theorem State.buildEcho_chains (b : Handle) (seq : Half) : (s.buildEcho b seq).chains = s.chains := by
  simp [State.buildEcho]
@[simp] theorem State.buildEcho_slf (b : Handle) (seq : Half) : (s.buildEcho b seq).slf = s.slf := by
  simp [State.buildEcho]
@[simp] theorem State.buildEcho_conns (b : Handle) (seq : Half) : (s.buildEcho b seq).conns = s.conns := by
  simp [State.buildEcho]
@[simp] theorem State.buildEcho_input (b : Handle) (seq : Half) : (s.buildEcho b seq).input = s.input := by
  simp [State.buildEcho]
@[simp] theorem State.buildEcho_readData (b : Handle) (seq : Half) : (s.buildEcho b seq).readData = s.readData := by
  simp [State.buildEcho]

/-! ### LEN and CHAN -/

/-- `BuildIP` sets LEN and CHAN of its buffer and changes no other record (R200). -/
theorem State.buildIp_bufs (b : Handle) (p : Byte) (n : Nat) (dst : List Byte) :
    (s.buildIp b p n dst).bufs =
      s.bufs.modify b.toNat fun x => { x with len := BitVec.ofNat 16 (s.build.iph + n), chan := 0 } := by
  unfold State.buildIp Config.iph; cases s.build.ipv <;> simp [State.setLength, State.setBuf]

/-- `BuildTCP` sets LEN and CHAN of its buffer and changes no other record (R201). -/
theorem State.buildTcp_bufs (b : Handle) (k : Nat) (fl : Byte) (payload : List Byte) :
    (s.buildTcp b k fl payload).bufs =
      s.bufs.modify b.toNat fun x =>
        { x with len := BitVec.ofNat 16 (s.build.iph + (20 + payload.length)), chan := 0 } := by
  simp only [State.buildTcp, State.fillL4Csum_bufs, State.writeBytes_bufs, State.buildIp_bufs]

/-- `BuildUDP` sets LEN and CHAN of its buffer and changes no other record (R202). -/
theorem State.buildUdp_bufs (b : Handle) (k : Nat) (payload : List Byte) :
    (s.buildUdp b k payload).bufs =
      s.bufs.modify b.toNat fun x =>
        { x with len := BitVec.ofNat 16 (s.build.iph + (8 + payload.length)), chan := 0 } := by
  simp only [State.buildUdp, State.fillL4Csum_bufs, State.writeBytes_bufs, State.buildIp_bufs]

/-- BUILD_ECHO sets LEN and CHAN of its buffer and changes no other record (R187). -/
theorem State.buildEcho_bufs (b : Handle) (seq : Half) :
    (s.buildEcho b seq).bufs =
      s.bufs.modify b.toNat fun x => { x with len := BitVec.ofNat 16 (s.build.iph + 12), chan := 0 } := by
  simp only [State.buildEcho, State.fillL4Csum_bufs, State.writeBytes_bufs, State.buildIp_bufs]

end Sys2Proof.Machine
end

