-- ==== Sys2Proof/Laws/Memory.lean ====
section
/-! SUPPORT. The data memory: what a store changes and what it leaves, and that every store keeps the canonical form
(20_memory.md R70 to R73; log entry 6). -/

namespace Sys2Proof.Machine

/-! ### One byte -/

/-- Reading the byte just stored gives it back. -/
theorem Memory.get?_put_same (m : Memory) (x : Nat) (v : Byte) : (m.put x v).get? x = some v := by
  induction m with
  | nil => simp [Memory.put, Memory.get?]
  | cons e m ih =>
    obtain ⟨a, w⟩ := e
    simp only [Memory.put]
    split
    · simp [Memory.get?]
    · split
      · simp [Memory.get?]
      · rename_i h; simp [Memory.get?, Ne.symm h, ih]

/-- Storing a byte leaves every other address alone. -/
theorem Memory.get?_put_ne (m : Memory) (x y : Nat) (v : Byte) (h : y ≠ x) : (m.put x v).get? y = m.get? y := by
  induction m with
  | nil => simp [Memory.put, Memory.get?, Ne.symm h]
  | cons e m ih =>
    obtain ⟨a, w⟩ := e
    simp only [Memory.put]
    split
    · simp [Memory.get?, Ne.symm h]
    · split
      · rename_i hx; subst hx; simp [Memory.get?, Ne.symm h]
      · simp [Memory.get?, ih]

/-- An address that a store lists is the stored one or was listed before. -/
theorem Memory.mem_put (m : Memory) (x y : Nat) (v : Byte) :
    y ∈ (m.put x v).map Prod.fst → y = x ∨ y ∈ m.map Prod.fst := by
  induction m with
  | nil => simp [Memory.put]
  | cons e m ih =>
    obtain ⟨a, w⟩ := e
    simp only [Memory.put]
    split
    · simp
    · split
      · rename_i hx; subst hx; simp
      · intro h
        simp only [List.map_cons, List.mem_cons] at h ⊢
        rcases h with h | h
        · exact .inr (.inl h)
        · rcases ih h with h | h
          · exact .inl h
          · exact .inr (.inr h)

/-- A store keeps the canonical form. -/
theorem Memory.wf_put (m : Memory) (x : Nat) (v : Byte) (h : m.wf) : (m.put x v).wf := by
  induction m with
  | nil => simp [Memory.put, Memory.wf]
  | cons e m ih =>
    obtain ⟨a, w⟩ := e
    simp only [Memory.wf, List.map_cons, List.pairwise_cons] at h
    simp only [Memory.put]
    split
    · rename_i hx
      simp only [Memory.wf, List.map_cons, List.pairwise_cons, List.mem_cons]
      refine ⟨?_, h⟩
      rintro y (rfl | hy)
      · exact hx
      · exact lt_trans hx (h.1 y hy)
    · split
      · rename_i hx; subst hx
        simpa only [Memory.wf, List.map_cons, List.pairwise_cons] using h
      · rename_i h1 h2
        simp only [Memory.wf, List.map_cons, List.pairwise_cons]
        refine ⟨fun y hy => ?_, ih h.2⟩
        rcases Memory.mem_put m x y v hy with rfl | hy
        · omega
        · exact h.1 y hy

/-! ### Consecutive bytes -/

/-- What a store of consecutive bytes does, at every address. -/
theorem Memory.get?_putAll (m : Memory) (x : Nat) (d : List Byte) (y : Nat) :
    (m.putAll x d).get? y = if x ≤ y ∧ y < x + d.length then d[y - x]? else m.get? y := by
  induction d generalizing m x with
  | nil => simp [Memory.putAll]
  | cons v d ih =>
    simp only [Memory.putAll, ih, List.length_cons]
    by_cases h : y = x
    · subst h; simp [Memory.get?_put_same]
    · by_cases h1 : x + 1 ≤ y ∧ y < x + 1 + d.length
      · have h2 : y - x = (y - (x + 1)) + 1 := by omega
        rw [if_pos h1, if_pos (by omega), h2, List.getElem?_cons_succ]
      · rw [if_neg h1, if_neg (by omega), Memory.get?_put_ne m x y v h]

/-- A store of consecutive bytes keeps the canonical form. -/
theorem Memory.wf_putAll (m : Memory) (x : Nat) (d : List Byte) (h : m.wf) : (m.putAll x d).wf := by
  induction d generalizing m x with
  | nil => exact h
  | cons v d ih => exact ih _ _ (Memory.wf_put m x v h)

/-- A store to the data of a buffer keeps the canonical form. -/
theorem State.writeBytes_wf (s : State) (b : Handle) (o : Nat) (d : List Byte) (h : s.mem.wf) :
    (s.writeBytes b o d).mem.wf := Memory.wf_putAll _ _ _ h

/-- The memory of the machine right after reset is canonical, in every build. -/
theorem State.resetOf_mem_wf (g : Config) : (State.resetOf g).mem.wf := List.Pairwise.nil

/-! ### The bytes of a buffer -/

/-- Two data bytes whose offsets are below 65536 have one address only if they are one byte. -/
theorem dataAddr_inj {b c : Handle} {o p : Nat} (ho : o < 65536) (hp : p < 65536) (h : dataAddr b o = dataAddr c p) :
    b = c ∧ o = p := by
  unfold dataAddr at h
  have h1 : b.toNat = c.toNat := by omega
  exact ⟨BitVec.eq_of_toNat_eq h1, by omega⟩

/-- What a store to the data of buffer `b` does, to every data byte. -/
theorem State.readByte_writeBytes (s : State) (b : Handle) (o : Nat) (d : List Byte) (c : Handle) (p : Nat)
    (ho : o + d.length ≤ 65536) (hp : p < 65536) :
    (s.writeBytes b o d).readByte c p =
      if c = b ∧ o ≤ p ∧ p < o + d.length then d.getD (p - o) 0 else s.readByte c p := by
  simp only [State.readByte, State.writeBytes, Memory.get?_putAll]
  by_cases h : c = b ∧ o ≤ p ∧ p < o + d.length
  · obtain ⟨rfl, h1, h2⟩ := h
    have h3 : dataAddr c o ≤ dataAddr c p ∧ dataAddr c p < dataAddr c o + d.length := by unfold dataAddr; omega
    have h4 : dataAddr c p - dataAddr c o = p - o := by unfold dataAddr; omega
    have h5 : p - o < d.length := by omega
    rw [if_pos h3, if_pos ⟨rfl, h1, h2⟩, h4]
    simp [h5, List.getD]
  · have h3 : ¬ (dataAddr b o ≤ dataAddr c p ∧ dataAddr c p < dataAddr b o + d.length) := by
      intro h3
      obtain ⟨q, hq⟩ : ∃ q, dataAddr c p = dataAddr b (o + q) ∧ q < d.length :=
        ⟨dataAddr c p - dataAddr b o, by unfold dataAddr at *; omega, by unfold dataAddr at *; omega⟩
      obtain ⟨rfl, rfl⟩ := dataAddr_inj hp (by omega) hq.1
      exact h ⟨rfl, by omega, by omega⟩
    rw [if_neg h3, if_neg h]

/-- A state with the same memory and the same free values reads the same bytes. -/
theorem State.readByte_congr {s t : State} (hm : t.mem = s.mem) (hd : t.draw = s.draw) (b : Handle) (o : Nat) :
    t.readByte b o = s.readByte b o := by simp [State.readByte, hm, hd]

/-- A byte that nothing has written since the last assertion of the reset input reads as its free value (R30, R73). -/
theorem State.readByte_unwritten (s : State) (b : Handle) (o : Nat) (h : s.mem.get? (dataAddr b o) = none) :
    s.readByte b o = Config.freeByte s.draw b.toNat o := by simp [State.readByte, h]

/-- Reading `n` bytes gives `n` bytes. -/
@[simp] theorem State.readBytes_length (s : State) (b : Handle) (o n : Nat) : (s.readBytes b o n).length = n := by
  simp [State.readBytes]

end Sys2Proof.Machine
end

