-- ==== Sys2Proof/Laws/PerInstr.lean ====
section
/-! SUPPORT. The statement made once for each command: its word holds its opcode and its operands in the fields of 30_encoding.md R90. -/

namespace Sys2Proof.Laws.Encoding

/-- The word of the command is made of its three fields, and each reads back. -/
def Statement (i : Instr) : Prop :=
  opField (encode i) = i.opcode ∧ aField (encode i) = i.aOperand ∧ bField (encode i) = i.bOperand

/-- The statement holds of any command. -/
theorem of_fields (i : Instr) : Statement i := ⟨opField_encode i, aField_encode i, bField_encode i⟩

theorem nop : Statement (.nop) := of_fields _
theorem getSpare : Statement (.getSpare) := of_fields _
theorem addSpare (b : Handle) : Statement (.addSpare b) := of_fields _
theorem queue (b : Handle) : Statement (.queue b) := of_fields _
theorem ref (b : Handle) : Statement (.ref b) := of_fields _
theorem unref (b : Handle) : Statement (.unref b) := of_fields _
theorem retained (b : Handle) : Statement (.retained b) := of_fields _
theorem bufInfo (b : Handle) : Statement (.bufInfo b) := of_fields _
theorem chainPush (c : Byte) (b : Handle) (urgent : Bool) : Statement (.chainPush c b urgent) := of_fields _
theorem chainPop (c : Byte) : Statement (.chainPop c) := of_fields _
theorem chainPeek (c : Byte) : Statement (.chainPeek c) := of_fields _
theorem chainRemove (c : Byte) (b : Handle) : Statement (.chainRemove c b) := of_fields _
theorem chainCount (c : Byte) : Statement (.chainCount c) := of_fields _
theorem chainNext (b : Handle) : Statement (.chainNext b) := of_fields _
theorem bufRd8 (b : Handle) (o : Half) : Statement (.bufRd8 b o) := of_fields _
theorem bufRd16 (b : Handle) (o : Half) : Statement (.bufRd16 b o) := of_fields _
theorem bufRd32 (b : Handle) (o : Half) : Statement (.bufRd32 b o) := of_fields _
theorem bufWr8 (b : Handle) (o : Half) : Statement (.bufWr8 b o) := of_fields _
theorem bufWr16 (b : Handle) (o : Half) : Statement (.bufWr16 b o) := of_fields _
theorem bufWr32 (b : Handle) (o : Half) : Statement (.bufWr32 b o) := of_fields _
theorem bufSetlen (b : Handle) (v : Half) : Statement (.bufSetlen b v) := of_fields _
theorem bufSetchan (b : Handle) (v : BitVec 4) : Statement (.bufSetchan b v) := of_fields _
theorem csClear : Statement (.csClear) := of_fields _
theorem csAdd16 : Statement (.csAdd16) := of_fields _
theorem csAdd32 : Statement (.csAdd32) := of_fields _
theorem csAddbuf (b : Handle) (o : Half) : Statement (.csAddbuf b o) := of_fields _
theorem csAddaddr (sel : Byte) : Statement (.csAddaddr sel) := of_fields _
theorem csFinal : Statement (.csFinal) := of_fields _
theorem sniff (b : Handle) : Statement (.sniff b) := of_fields _
theorem pingToPong (b : Handle) : Statement (.pingToPong b) := of_fields _
theorem buildEcho (b : Handle) (seq : Half) : Statement (.buildEcho b seq) := of_fields _
theorem slipRx (c : Byte) (x : Byte) : Statement (.slipRx c x) := of_fields _
theorem slipTx (c : Byte) : Statement (.slipTx c) := of_fields _
theorem slipState (c : Byte) : Statement (.slipState c) := of_fields _
theorem connInit (k : Byte) (port : Half) : Statement (.connInit k port) := of_fields _
theorem connReg (k : Byte) (r : Bool) : Statement (.connReg k r) := of_fields _
theorem connReset (k : Byte) : Statement (.connReset k) := of_fields _
theorem connSetremote (k : Byte) (port : Half) : Statement (.connSetremote k port) := of_fields _
theorem connOpen (k : Byte) : Statement (.connOpen k) := of_fields _
theorem connConnect (k : Byte) (port : Half) : Statement (.connConnect k port) := of_fields _
theorem connClose (k : Byte) : Statement (.connClose k) := of_fields _
theorem connUpdate (k : Byte) : Statement (.connUpdate k) := of_fields _
theorem connTimeout (k : Byte) : Statement (.connTimeout k) := of_fields _
theorem connAccept (b : Handle) : Statement (.connAccept b) := of_fields _
theorem connRead (k : Byte) (n : BitVec 3) : Statement (.connRead k n) := of_fields _
theorem connWrite (k : Byte) (n : BitVec 3) : Statement (.connWrite k n) := of_fields _
theorem connStatus (k : Byte) : Statement (.connStatus k) := of_fields _
theorem connEvents (k : Byte) : Statement (.connEvents k) := of_fields _
theorem connListener (k : Byte) (v : Bool) : Statement (.connListener k v) := of_fields _
theorem connTcpinfo (k : Byte) : Statement (.connTcpinfo k) := of_fields _
theorem connGetremote (k : Byte) : Statement (.connGetremote k) := of_fields _
theorem softReset : Statement (.softReset) := of_fields _

end Sys2Proof.Laws.Encoding
end

