-- ==== Sys2Proof/Tests/Slice0.lean ====
section
/-! SUPPORT. Tests: ill-formed terms refused, a hand-written word of every command, one or two steps of every command with values from
95_test_vectors.md, and for every statement with hypotheses concrete states that meet them. -/

namespace Sys2Proof.Tests

open Sys2Proof Sys2Proof.Machine

-- One theorem after the other: checked side by side, so many kernel evaluations each claim a thread.
set_option Elab.async false

/-! ### Small states

All are in the build of 95_test_vectors.md: four buffers, two channels, four slots of 16-byte FIFOs, 128 bytes a buffer. -/

/-- Buffer 0 host-held, 1 to 3 on SPARE. -/
def held : State := State.reset.takeSpare.2

/-- Every buffer host-held. -/
def dry : State := held.takeSpare.2.takeSpare.2.takeSpare.2

/-- Buffer 0 host-held with the reference count `n`. -/
def counted (n : Byte) : State := held.setBuf 0 fun x => { x with ref := n }

/-- Buffer 0 holds the packet `d`. -/
def packetIn (s : State) (d : List Byte) : State :=
  (s.writeBytes 0 0 d).setBuf 0 fun x => { x with len := BitVec.ofNat 16 d.length }

/-- Buffer 0 host-held and holding the packet `d`. -/
def withPacket (d : List Byte) : State := packetIn held d

/-- Buffers 0 and 1 on chain `c` in this order, 2 and 3 on SPARE. -/
def queued (c : Nat) : State := ((held.takeSpare.2).pushTail c 0).pushTail c 1

/-- ARG0 holds `v`. -/
def withArg0 (v : Word) (s : State) : State := s.setRegs { s.regs with arg0 := v }

/-- Slot 0 is as `x` says. -/
def withSlot (x : Conn) (s : State) : State := s.setConn 0 fun _ => x

/-- Buffer `b`, host-held in `s`, in a holder. -/
def inHolder (b : Handle) (s : State) : State := s.setLoc b .hold

/-- STATUS.ERR, RES0 and RES1 after the host writes the command word `w`. -/
def reports (w : Nat) (s : State) : Option (Nat × Nat × Nat) :=
  match step (s.withFetchWord 32 w) with
  | .next t => some (t.regs.err.toNat, t.regs.res0.toNat, t.regs.res1.toNat)
  | _ => none

/-- `p` holds of the state after the host writes the command word `w`. -/
def leaves (w : Nat) (s : State) (p : State → Bool) : Bool :=
  match step (s.withFetchWord 32 w) with
  | .next t => p t
  | _ => false

/-! ### Packets -/

/-- The `n` bytes of the number `v`, most significant first. -/
def ofHex (n v : Nat) : List Byte := (List.range n).map fun i => BitVec.ofNat 8 (v / 256 ^ (n - 1 - i))

/-- SN1: the SYN of program P4, 10.0.0.1:0x4000 to 10.0.0.2:80, sequence number 0x2000. -/
def synPacket : List Byte :=
  ofHex 40 0x45000028000000004006_66CE0A0000010A00000240000050000020000000000050020058_3B380000

/-- The SYN-ACK of program P4, row 23. -/
def synAckPacket : List Byte :=
  ofHex 40 0x45000028000000004006_66CE0A0000020A00000100504000000010000000200150120058_2B270000

/-- T1: the ACK of program P4, row 33. -/
def ackPacket : List Byte :=
  ofHex 40 0x45000028000000004006_66CE0A0000010A00000240000050000020010000100150100058_2B280000

/-- The data segment of program P4, row 49: "Hell". -/
def dataPacket : List Byte :=
  ofHex 44 0x4500002C000000004006_66CA0A0000010A00000240000050000020010000100150180058_764A000048656C6C

/-- SN17: a datagram from 10.0.0.1:7 to 10.0.0.2:9 with payload 01 02 03. -/
def udpPacket : List Byte := ofHex 31 0x4500001F000000004011_66CC0A0000010A00000200070009000BE7C3010203

/-- SN17 without payload and with UDP checksum 0, which is unused under IPv4 (R183). -/
def emptyUdpPacket : List Byte := ofHex 28 0x4500001C000000004011_66CF0A0000010A0000020007000900080000

/-- SN22: the echo request of R186. -/
def echoPacket : List Byte := ofHex 32 0x45000020000000004001_66DB0A0000010A0000020800482D12340001DEADBEEF

/-! ### Slots -/

/-- An open UDP slot on port 9, unbound. -/
def udpSlot : Conn := { idleConn with reg := true, lport := 9, state := .opened }

/-- The server of program P4: TCP port 80, listening with sequence number 0x1000. -/
def serverSlot : Conn := { idleConn with reg := true, proto := .tcp, lport := 80, state := .listen, sndSeq := 0x1000 }

/-- The server after the SYN. -/
def rcvdSlot : Conn :=
  { serverSlot with state := .synRcvd, raddr := ⟨0x0A000001, 0, 0, 0⟩, rport := 0x4000, rbound := true, rcvAck := 0x2001,
                    synackDue := true }

/-- The server after the handshake. -/
def openSlot : Conn := { rcvdSlot with state := .opened, sndSeq := 0x1001, synackDue := false, events := 1 }

/-- The client of program P4 after CONN_CONNECT. -/
def clientSlot : Conn :=
  { idleConn with reg := true, proto := .tcp, lport := 0x4000, raddr := ⟨0x0A000002, 0, 0, 0⟩, rport := 80, rbound := true,
                  state := .synSent, sndSeq := 0x2000, synDue := true }

/-! ### Channels -/

/-- Channel 1 receives into buffer 0 of `s`, which holds `len` bytes. -/
def receiving (s : State) (len : Half) (esc ovf : Bool := false) : State :=
  ((inHolder 0 s).setBuf 0 fun x => { x with len := len }).setSlip 1 fun z =>
    { z with rxbuf := 0, rxesc := esc, rxovf := ovf }

/-- Channel 1 sends buffer 0, which holds `01 C0 DB 02`. -/
def sending (ph : TxPhase) (pos : Half) : State :=
  (inHolder 0 (withPacket [0x01, 0xC0, 0xDB, 0x02])).setSlip 1 fun z => { z with txcur := 0, txpos := pos, txph := ph }

/-! ### Soundness by checking the handles that exist

The checks are Bool functions over lists, which the kernel evaluates fast; `sound_of_check` says that they are enough. -/

/-- The handles of the pool. -/
def handles (s : State) : List Handle := (List.range s.build.nbuf).map (BitVec.ofNat 8)

theorem forall_handles (s : State) {P : Handle → Prop} (h : ∀ b ∈ handles s, P b) :
    ∀ b : Handle, s.build.hasBuffer b → P b := fun b hb =>
  h b (List.mem_map.2 ⟨b.toNat, List.mem_range.2 hb, by simp⟩)

/-- No element stands in the list twice. -/
def distinct : List Handle → Bool
  | [] => true
  | b :: l => !l.contains b && distinct l

theorem nodup_of_distinct {l : List Handle} (h : distinct l = true) : l.Nodup := by
  induction l with
  | nil => exact List.nodup_nil
  | cons b l ih =>
    simp only [distinct, Bool.and_eq_true, Bool.not_eq_true', List.contains_eq_mem, decide_eq_false_iff_not] at h
    exact List.nodup_cons.2 ⟨h.1, ih h.2⟩

/-- `l` holds exactly the handles of the pool that satisfy `p`. -/
def exactly (s : State) (l : List Handle) (p : Handle → Bool) : Bool := (handles s).all fun b => l.contains b == p b

theorem iff_of_exactly {s : State} {l : List Handle} {p : Handle → Bool} (h : exactly s l p = true) :
    ∀ b : Handle, s.build.hasBuffer b → (b ∈ l ↔ p b = true) :=
  forall_handles s fun b hb => by
    have := beq_iff_eq.1 (List.all_eq_true.1 h b hb)
    rw [← this, List.contains_iff_mem]

/-- Chain `c` satisfies items 1 and 2 of R33, by its list. -/
def chainCheck (s : State) (c : Nat) : Bool :=
  let l := s.chainList c
  (s.chain c).head == l.headD NONE && (s.chain c).tail == l.getLastD NONE && (s.chain c).count.toNat == l.length &&
    (l.map (fun b => (s.buf b).next) == (l ++ [NONE]).tail) && distinct l && l.all (fun b => decide (s.build.hasBuffer b)) &&
    exactly s l fun b => (s.buf b).loc == .chain c

theorem chainOk_of_check {s : State} {c : Nat} (h : chainCheck s c = true) : s.chainOk c := by
  simp only [chainCheck, Bool.and_eq_true, beq_iff_eq, List.all_eq_true, decide_eq_true_eq] at h
  obtain ⟨⟨⟨⟨⟨⟨h1, h2⟩, h3⟩, h4⟩, h5⟩, h6⟩, h7⟩ := h
  exact ⟨h1, h2, h3, h4, nodup_of_distinct h5, h6, fun b hb => (iff_of_exactly h7 b hb).trans beq_iff_eq⟩

/-- Items 4 and 5 of R33 for buffer `b`. -/
def bufferCheck (s : State) (b : Handle) : Bool :=
  let x := s.buf b
  x.loc.known s.build.nchan && (x.next == NONE || !(x.loc == .hold || x.loc == .off)) && (x.ref == 0 || !(x.loc == .chain SPARE))

theorem bufferOk_of_check {s : State} {b : Handle} (h : bufferCheck s b = true) : s.bufferOk b := by
  simp only [bufferCheck, Bool.and_eq_true, Bool.or_eq_true, beq_iff_eq, Bool.not_eq_true', Bool.or_eq_false_iff,
    beq_eq_false_iff_ne] at h
  obtain ⟨⟨h1, h2⟩, h3⟩ := h
  refine ⟨h1, fun hl => h2.resolve_right ?_, fun hl => h3.resolve_right (fun hn => hn hl)⟩
  rintro ⟨a, b⟩
  exact hl.elim a b

/-- The pool invariants, by the lists of chains and handles. -/
def poolCheck (s : State) : Bool :=
  (List.range (3 + s.build.nchan)).all (chainCheck s) && distinct s.holders &&
    s.holders.all (fun b => decide (s.build.hasBuffer b)) && exactly s s.holders (fun b => (s.buf b).loc == .hold) &&
    (handles s).all (bufferCheck s) && s.conns.all (fun x => x.retx == NONE || decide (s.build.hasBuffer x.retx)) &&
    s.conns.all (fun x => x.staged == NONE || decide (x.soff.toNat < (s.buf x.staged).len.toNat))

theorem poolOk_of_check {s : State} (h : poolCheck s = true) : s.poolOk := by
  simp only [poolCheck, Bool.and_eq_true, List.all_eq_true, List.mem_range, decide_eq_true_eq, Bool.or_eq_true,
    beq_iff_eq] at h
  obtain ⟨⟨⟨⟨⟨⟨h1, h2⟩, h3⟩, h4⟩, h5⟩, h6⟩, h7⟩ := h
  exact ⟨fun c hc => chainOk_of_check (h1 c hc),
    ⟨nodup_of_distinct h2, h3, fun b hb => (iff_of_exactly h4 b hb).trans beq_iff_eq⟩,
    forall_handles s fun b hb => bufferOk_of_check (h5 b hb), h6, fun x hx hs => (h7 x hx).resolve_left hs⟩

/-- The bounds and encodings of one slot. -/
def connCheck (g : Config) (x : Conn) : Bool :=
  decide (x.rfifo.length ≤ g.fifoCap) && decide (x.wfifo.length ≤ g.fifoCap) &&
    decide (x.proto = .udp → x.state = .closed ∨ x.state = .opened ∨ x.state = .closing) &&
    decide (x.state = .listen → x.rbound = false) &&
    decide (x.proto = .tcp → x.state ≠ .closed → x.state ≠ .listen → x.rbound = true) &&
    decide (x.retx ≠ NONE → x.state = .synSent ∨ x.state = .synRcvd) &&
    decide (x.synDue = true → x.state = .synSent ∧ x.retx = NONE) &&
    decide (x.synackDue = true → x.state = .synRcvd ∧ x.retx = NONE) && decide (addrOk g.ipv x.raddr)

theorem connOk_of_check {g : Config} {x : Conn} (h : connCheck g x = true) : x.ok g := by
  simpa only [connCheck, Bool.and_eq_true, decide_eq_true_eq, and_assoc] using h

/-- The addresses rise strictly. -/
def rising : Memory → Bool
  | [] => true
  | [_] => true
  | (a, _) :: (b, v) :: m => decide (a < b) && rising ((b, v) :: m)

theorem wf_of_rising {m : Memory} (h : rising m = true) : m.wf := by
  rw [Memory.wf, List.pairwise_map]
  refine List.IsChain.pairwise ?_
  induction m with
  | nil => exact .nil
  | cons p m ih =>
    rcases m with _ | ⟨q, m⟩
    · exact .singleton _
    · simp only [rising, Bool.and_eq_true, decide_eq_true_eq] at h
      exact .cons_cons h.1 (ih h.2)

/-- Every field within its bounds. -/
def fieldsCheck (s : State) : Bool :=
  s.bufs.all (fun x => decide (x.len.toNat ≤ s.build.bufCap)) && s.slf.all (fun x => (x.txcur == NONE) == (x.txph == .idle)) &&
    s.conns.all (connCheck s.build) && decide (addrOk s.build.ipv s.regs.hostaddr) &&
    decide (addrOk s.build.ipv s.regs.argaddr) && rising s.mem

theorem fieldsOk_of_check {s : State} (h : fieldsCheck s = true) : s.fieldsOk := by
  simp only [fieldsCheck, Bool.and_eq_true, decide_eq_true_eq, List.all_eq_true, beq_iff_eq] at h
  obtain ⟨⟨⟨⟨⟨h1, h2⟩, h3⟩, h4⟩, h5⟩, h6⟩ := h
  exact ⟨h1, fun x hx => by rw [← beq_iff_eq, h2 x hx, beq_iff_eq], fun x hx => connOk_of_check (h3 x hx), h4, h5,
    wf_of_rising h6⟩

/-- Shape, bounds and pool together. -/
def soundCheck (s : State) : Bool := decide s.shaped && fieldsCheck s && poolCheck s

theorem sound_of_check {s : State} (h : soundCheck s = true) : s.sound := by
  simp only [soundCheck, Bool.and_eq_true, decide_eq_true_eq] at h
  exact ⟨h.1.1, fieldsOk_of_check h.1.2, poolOk_of_check h.2⟩

theorem reset_sound : State.reset.sound := sound_of_check (by decide +kernel)
theorem held_sound : held.sound := sound_of_check (by decide +kernel)
theorem dry_sound : dry.sound := sound_of_check (by decide +kernel)

/-! ### Ill-formed terms are refused (the smoke test of Config.valid and Instr.wellFormed) -/

/-- Each bound of R13, broken alone. -/
theorem test_invalid_builds :
    ([{ Config.testBuild with nbuf := 1 }, { Config.testBuild with nbuf := 256 },
      { Config.testBuild with bufCap := 40, fifoCap := 1 }, { Config.testBuild with bufCap := 65536 },
      { Config.testBuild with fifoCap := 0 }, { Config.testBuild with fifoCap := 88 }, { Config.testBuild with nchan := 0 },
      { Config.testBuild with nchan := 16 }, { Config.testBuild with nconn := 0 },
      { Config.testBuild with nconn := 255 }] : List Config).all (fun g => !decide g.valid) = true := by decide

/-- The parameter sets at the edges of R13 are valid. -/
theorem test_valid_builds :
    ([Config.testBuild, { Config.testBuild with nbuf := 2, bufCap := 42, fifoCap := 1, nchan := 1, nconn := 1 },
      { Config.testBuild with ipv := .v6, nbuf := 255, bufCap := 65535, fifoCap := 65474, nchan := 15, nconn := 254 }] :
      List Config).all (fun g => decide g.valid) = true := by decide

theorem test_illformed_handles :
    ([.addSpare 4, .queue 255, .ref 4, .unref 4, .retained 4, .bufInfo 4, .chainNext 4, .bufRd8 4 0, .bufRd16 4 0, .bufRd32 4 0,
      .bufWr8 4 0, .bufWr16 4 0, .bufWr32 4 0, .bufSetlen 4 0, .bufSetchan 4 0, .csAddbuf 4 0, .sniff 4, .pingToPong 9,
      .buildEcho 4 0, .connAccept 255, .chainPush 3 4 false, .chainRemove 3 4] : List Instr).all
      (fun i => !i.wellFormed Config.testBuild) = true := by decide

theorem test_illformed_chains_slots_channels :
    ([.chainPush 0 0 false, .chainPush 5 0 false, .chainPop 0, .chainPop 5, .chainPeek 5, .chainRemove 0 0, .chainRemove 5 0,
      .chainCount 5, .slipRx 0 0, .slipRx 3 0, .slipTx 3, .slipState 0, .connInit 4 1, .connReg 4 true, .connReset 4,
      .connSetremote 4 1, .connOpen 4, .connConnect 4 1, .connClose 4, .connUpdate 0xFE, .connTimeout 4, .connRead 4 0,
      .connWrite 4 0, .connStatus 4, .connEvents 4, .connListener 4 true, .connTcpinfo 4, .connGetremote 4] : List Instr).all
      (fun i => !i.wellFormed Config.testBuild) = true := by decide

theorem test_illformed_ranges :
    ([.bufRd8 0 128, .bufRd16 0 127, .bufRd32 0 125, .bufWr8 0 128, .bufWr16 0 127, .bufWr32 0 125, .bufSetlen 0 129,
      .csAddbuf 0 129, .csAddaddr 2, .connRead 0 5, .connWrite 0 5] : List Instr).all
      (fun i => !i.wellFormed Config.testBuild) = true := by decide

theorem test_wellformed :
    ([.nop, .getSpare, .addSpare 3, .chainPush 4 3 true, .chainPeek 0, .bufRd32 0 124, .bufSetlen 0 128, .csAddbuf 0 128,
      .csAddaddr 1, .slipRx 2 0xC0, .connUpdate 0xFF, .connUpdate 3, .connRead 3 4, .softReset] : List Instr).all
      (fun i => i.wellFormed Config.testBuild) = true := by decide

/-! ### Decoding: one word of every command, from R92 and the opcode table, ignored fields not zero -/

theorem test_decode_pool :
    decode 0x00ABCDEF = .instr .nop ∧ decode 0x01123456 = .instr .getSpare ∧ decode 0x0203FFFF = .instr (.addSpare 3) ∧
      decode 0x03020000 = .instr (.queue 2) ∧ decode 0x04FF0000 = .instr (.ref 0xFF) ∧ decode 0x05010000 = .instr (.unref 1) ∧
      decode 0x06010000 = .instr (.retained 1) ∧ decode 0x07010000 = .instr (.bufInfo 1) ∧
      decode 0x08030101 = .instr (.chainPush 3 1 true) ∧ decode 0x0803FE02 = .instr (.chainPush 3 2 false) ∧
      decode 0x09040000 = .instr (.chainPop 4) ∧ decode 0x0A030000 = .instr (.chainPeek 3) ∧
      decode 0x0B03FF02 = .instr (.chainRemove 3 2) ∧ decode 0x0C010000 = .instr (.chainCount 1) ∧
      decode 0x0D010000 = .instr (.chainNext 1) := by decide

theorem test_decode_data :
    decode 0x1002007F = .instr (.bufRd8 2 127) ∧ decode 0x1102FFFE = .instr (.bufRd16 2 65534) ∧
      decode 0x1200001C = .instr (.bufRd32 0 28) ∧ decode 0x13010005 = .instr (.bufWr8 1 5) ∧
      decode 0x14010102 = .instr (.bufWr16 1 258) ∧ decode 0x1502007E = .instr (.bufWr32 2 126) ∧
      decode 0x16000080 = .instr (.bufSetlen 0 128) ∧ decode 0x1701FFF2 = .instr (.bufSetchan 1 2) := by decide

theorem test_decode_checksum_header :
    decode 0x20FFFFFF = .instr .csClear ∧ decode 0x21000000 = .instr .csAdd16 ∧ decode 0x22000000 = .instr .csAdd32 ∧
      decode 0x23010014 = .instr (.csAddbuf 1 20) ∧ decode 0x2402FFFF = .instr (.csAddaddr 2) ∧
      decode 0x25000000 = .instr .csFinal ∧ decode 0x30010000 = .instr (.sniff 1) ∧
      decode 0x31020000 = .instr (.pingToPong 2) ∧ decode 0x3200FFFF = .instr (.buildEcho 0 0xFFFF) := by decide

theorem test_decode_slip :
    decode 0x400112DB = .instr (.slipRx 1 0xDB) ∧ decode 0x41020000 = .instr (.slipTx 2) ∧
      decode 0x42010000 = .instr (.slipState 1) := by decide

theorem test_decode_connection :
    decode 0x50004000 = .instr (.connInit 0 0x4000) ∧ decode 0x5101FFFF = .instr (.connReg 1 true) ∧
      decode 0x5101FFFE = .instr (.connReg 1 false) ∧ decode 0x52020000 = .instr (.connReset 2) ∧
      decode 0x53000009 = .instr (.connSetremote 0 9) ∧ decode 0x54030000 = .instr (.connOpen 3) ∧
      decode 0x55000050 = .instr (.connConnect 0 80) ∧ decode 0x56010000 = .instr (.connClose 1) ∧
      decode 0x57FF0000 = .instr (.connUpdate 0xFF) ∧ decode 0x58010000 = .instr (.connTimeout 1) ∧
      decode 0x59AAFF03 = .instr (.connAccept 3) ∧ decode 0x5A01FFFC = .instr (.connRead 1 4) ∧
      decode 0x5B000007 = .instr (.connWrite 0 7) ∧ decode 0x5C010000 = .instr (.connStatus 1) ∧
      decode 0x5D010000 = .instr (.connEvents 1) ∧ decode 0x5E000001 = .instr (.connListener 0 true) ∧
      decode 0x5F010000 = .instr (.connTcpinfo 1) ∧ decode 0x60010000 = .instr (.connGetremote 1) ∧
      decode 0x7F123456 = .instr .softReset := by decide

/-- The unassigned opcodes at the edges of each gap of R96. -/
theorem test_decode_unassigned :
    ([0x0E, 0x0F, 0x18, 0x1F, 0x26, 0x2F, 0x33, 0x3F, 0x43, 0x4F, 0x61, 0x7E, 0x80, 0xFF] : List Byte).all
      (fun op => decide (decode (op ++ 0#24) = .reject (.illegalOpcode op))) = true := by decide

/-! ### One or two steps of every command, with the values of 95_test_vectors.md -/

/-- ER3. -/
theorem test_nop :
    reports 0x00ABCDEF dry = some (0, 0, 0) := by decide +kernel

/-- PL1. -/
theorem test_get_spare :
    reports 0x01000000 State.reset = some (0, 0, 0) := by decide +kernel

/-- PL1: the fifth GET_SPARE. -/
theorem test_get_spare_dry :
    reports 0x01000000 dry = some (0, 0xFF, 0) := by decide +kernel

/-- PL7. -/
theorem test_add_spare :
    leaves 0x02030000 dry (fun t => t.regs.res0 == 1 && t.chainList SPARE == [3]) = true := by decide +kernel

/-- PL4: a referenced buffer stays host-held. -/
theorem test_add_spare_referenced :
    reports 0x02000000 (counted 1) = some (0, 0, 0) := by decide +kernel

/-- P1 row 6. -/
theorem test_queue :
    leaves 0x03000000 held (fun t => t.regs.res0 == 1 && t.chainList PENDING == [0] && t.chainList SPARE == [2, 3])
      = true := by decide +kernel

/-- PL7. -/
theorem test_queue_dry :
    reports 0x03020000 dry = some (0, 0xFF, 0) := by decide +kernel

/-- PL5. -/
theorem test_ref :
    reports 0x04000000 (counted 254) = some (0, 0xFF, 0) := by decide +kernel

/-- PL5: E_REFCNT, no wrap. -/
theorem test_ref_full :
    reports 0x04000000 (counted 255) = some (7, 0, 0) := by decide +kernel

/-- PL4. -/
theorem test_unref :
    reports 0x05000000 (counted 1) = some (0, 0, 0) := by decide +kernel

/-- PL6. -/
theorem test_unref_zero :
    reports 0x05000000 State.reset = some (7, 0, 0) := by decide +kernel

/-- PL4. -/
theorem test_retained :
    reports 0x06000000 (counted 1) = some (0, 1, 0) := by decide +kernel

/-- P1 row 16. -/
theorem test_buf_info :
    reports 0x07000000 (held.setBuf 0 fun x => { x with len := 4, ref := 1, chan := 1 }) = some (0, 0x1010004,
      0xFF1F) := by decide +kernel

/-- SL6. -/
theorem test_buf_info_holder :
    reports 0x07000000 (inHolder 0 held) = some (0, 0, 0xFF1E) := by decide +kernel

/-- PL8. -/
theorem test_chain_push :
    leaves 0x08030000 held (fun t => t.regs.res0 == 1 && t.chainList 3 == [0]) = true := by decide +kernel

/-- PL8. -/
theorem test_chain_push_urgent :
    leaves 0x08030102 ((queued 3).takeSpare.2) (fun t => t.regs.res0 == 3 && t.chainList 3 == [2, 0, 1]) = true := by decide +kernel

/-- PL11, R112. -/
theorem test_chain_pop :
    leaves 0x09030000 (queued 3) (fun t => t.regs.res0 == 0 && t.chainList 3 == [1] && (t.buf 0).loc == .off) = true := by decide +kernel

/-- PL10: E_CHAIN. -/
theorem test_chain_pop_spare :
    reports 0x09000000 State.reset = some (3, 0, 0) := by decide +kernel

/-- PL1. -/
theorem test_chain_peek :
    reports 0x0A000000 State.reset = some (0, 0, 4) := by decide +kernel

/-- PL9. -/
theorem test_chain_remove_tail :
    leaves 0x0B030001 (queued 3) (fun t => t.chainList 3 == [0] && (t.chain 3).tail == 0 && (t.chain 3).count == 1)
      = true := by decide +kernel

/-- ER4: E_NOTMEMBER. -/
theorem test_chain_remove_other :
    reports 0x0B010002 (queued 3) = some (5, 0, 0) := by decide +kernel

/-- ER1. -/
theorem test_chain_count :
    reports 0x0C000000 State.reset = some (0, 4, 0) := by decide +kernel

/-- PL8. -/
theorem test_chain_next :
    reports 0x0D000000 (queued 3) = some (0, 1, 0) := by decide +kernel

/-- PL12. -/
theorem test_buf_rd8 :
    reports 0x1000007F (held.memWrite 0 0x7C 4 0x45000028) = some (0, 0x28, 0) := by decide +kernel

/-- PL12. -/
theorem test_buf_rd16 :
    reports 0x1100007E (held.memWrite 0 0x7C 4 0x45000028) = some (0, 0x28, 0) := by decide +kernel

/-- PL12. -/
theorem test_buf_rd16_range :
    reports 0x1100007F (held.memWrite 0 0x7C 4 0x45000028) = some (6, 0, 0) := by decide +kernel

/-- PL12. -/
theorem test_buf_rd32 :
    reports 0x1200007C (held.memWrite 0 0x7C 4 0x45000028) = some (0, 0x45000028, 0) := by decide +kernel

/-- PL13. -/
theorem test_buf_wr8 :
    leaves 0x13000000 (withArg0 0xAABBCCDD held) (fun t => t.readByte 0 0 == 0xDD) = true := by decide +kernel

/-- PL13. -/
theorem test_buf_wr16 :
    leaves 0x14000001 (withArg0 0xAABBCCDD held) (fun t => t.readBytes 0 1 2 == [0xCC, 0xDD]) = true := by decide +kernel

/-- PL13. -/
theorem test_buf_wr32 :
    leaves 0x15000003 (withArg0 0xAABBCCDD held) (fun t => t.readBytes 0 3 4 == [0xAA, 0xBB, 0xCC, 0xDD]) = true := by decide +kernel

/-- ER4. -/
theorem test_buf_wr32_busy :
    reports 0x15010000 (withArg0 0xAABBCCDD held) = some (4, 0, 0) := by decide +kernel

/-- PL14. -/
theorem test_buf_setlen :
    leaves 0x16000080 held (fun t => (t.buf 0).len == 128) = true := by decide +kernel

/-- PL14. -/
theorem test_buf_setlen_range :
    reports 0x16000081 held = some (6, 0, 0) := by decide +kernel

/-- PL14: the low four bits. -/
theorem test_buf_setchan :
    leaves 0x1700001F held (fun t => (t.buf 0).chan == 15) = true := by decide +kernel

/-- CS10. -/
theorem test_cs_clear :
    leaves 0x20000000 (held.setCsa { acc := 5, odd := true, pend := 0xAB }) (fun t => t.csa ==
      { acc := 0, odd := false, pend := 0 }) = true := by decide +kernel

/-- CS9. -/
theorem test_cs_add16 :
    reports 0x21000000 (withArg0 0xABCD00EF held) = some (0, 0xEF, 0) := by decide +kernel

/-- CS2. -/
theorem test_cs_add32 :
    reports 0x22000000 (withArg0 0x12345678 (held.setCsa { acc := 0x4500, odd := false, pend := 0 })) = some (0,
      0xADAC, 0) := by decide +kernel

/-- CS4. -/
theorem test_cs_addbuf :
    reports 0x23000000 (withArg0 3 (held.writeBytes 0 0 [1, 2, 3])) = some (0, 0x102, 0) := by decide +kernel

/-- CS8. -/
theorem test_cs_addbuf_range :
    reports 0x23000000 (withArg0 0x81 held) = some (6, 0, 0) := by decide +kernel

/-- CS7. -/
theorem test_cs_addaddr :
    reports 0x24010000 held = some (0, 0xA01, 0) := by decide +kernel

/-- CS4. -/
theorem test_cs_final :
    reports 0x25000000 (held.setCsa { acc := 0x102, odd := true, pend := 3 }) = some (0, 0xFBFD, 0x402) := by decide +kernel

/-- SN1. -/
theorem test_sniff :
    reports 0x30000000 (withPacket synPacket) = some (0, 0, 0x141406) := by decide +kernel

/-- T5. -/
theorem test_sniff_truncated :
    reports 0x30000000 (withPacket (synPacket.take 39)) = some (0, 5, 0) := by decide +kernel

/-- EC2. -/
theorem test_ping_to_pong :
    leaves 0x31000000 ((withPacket echoPacket).setHostaddr ⟨0x0A000002, 0, 0, 0⟩) (fun t => t.packet 0 == ofHex 32
      0x45000020000000004001_66DB0A0000020A0000010000502D12340001DEADBEEF) = true := by decide +kernel

/-- EC5: E_NOTECHO. -/
theorem test_ping_to_pong_syn :
    reports 0x31000000 (withPacket synPacket) = some (11, 0, 0) := by decide +kernel

/-- EC1. -/
theorem test_build_echo :
    leaves 0x32000001 (((withArg0 0x1234 held).setRegs
      { (withArg0 0x1234 held).regs with arg1 := 0xDEADBEEF }).setArgaddr ⟨0x0A000002, 0, 0, 0⟩) (fun t =>
      t.regs.res0 == 0x20 && t.packet 0 == echoPacket) = true := by decide +kernel

/-- SL2. -/
theorem test_slip_rx :
    leaves 0x400100C0 (receiving held 1) (fun t => t.regs.res1 == 1 && t.chainList PENDING == [0] && (t.buf 0).chan
      == 1 && (t.slip 1).rxbuf == 1) = true := by decide +kernel

/-- SL7. -/
theorem test_slip_rx_stall :
    reports 0x40010041 dry = some (0, 1, 0) := by decide +kernel

/-- SL9: the byte C0. -/
theorem test_slip_tx_escape :
    reports 0x41010000 (sending .data 1) = some (0, 0x1DB, 0) := by decide +kernel

/-- SL9. -/
theorem test_slip_tx_last :
    leaves 0x41010000 (sending .data 4) (fun t => t.regs.res0 == 0x3C0 && t.chainList SPARE == [0, 1, 2, 3]) = true := by decide +kernel

/-- SL14. -/
theorem test_slip_state :
    reports 0x42010000 (sending .escDc 1) = some (0, 0x30000FF, 1) := by decide +kernel

/-- CN11, R246. -/
theorem test_conn_init :
    leaves 0x50004000 (withArg0 1 (withSlot { rcvdSlot with events := 8 } held)) (fun t => t.conn 0 ==
      { idleConn with reg := true, proto := .tcp, lport := 0x4000 }) = true := by decide +kernel

/-- CN1. -/
theorem test_conn_reg :
    leaves 0x51020001 held (fun t => (t.conn 2).reg && (t.conn 0).reg == false) = true := by decide +kernel

/-- CN20. -/
theorem test_conn_reset :
    leaves 0x52000000 (inHolder 0 (withSlot { udpSlot with staged := 0, wfifo := [1, 2, 3] } held)) (fun t => t.conn
      0 == { udpSlot with state := .closed } && t.chainList SPARE == [0, 1, 2, 3]) = true := by decide +kernel

/-- CN1. -/
theorem test_conn_setremote :
    leaves 0x53000009 (held.setArgaddr ⟨0x0A000002, 0, 0, 0⟩) (fun t => (t.conn 0).rport == 9 && (t.conn 0).rbound
      && (t.conn 0).raddr == ⟨0x0A000002, 0, 0, 0⟩) = true := by decide +kernel

/-- CN11: E_STATE. -/
theorem test_conn_setremote_open :
    reports 0x53000050 (withSlot udpSlot held) = some (9, 0, 0) := by decide +kernel

/-- CN1. -/
theorem test_conn_open_udp :
    leaves 0x54000000 (withSlot { udpSlot with state := .closed } held) (fun t => t.regs.res0 == 4 && (t.conn
      0).events == 1 && (t.conn 0).state == .opened) = true := by decide +kernel

/-- P4 row 5. -/
theorem test_conn_open_tcp :
    leaves 0x54000000 (withArg0 0x1000 (withSlot { serverSlot with state := .closed, sndSeq := 0 } held)) (fun t =>
      t.regs.res0 == 1 && t.conn 0 == serverSlot) = true := by decide +kernel

/-- P4 row 11. -/
theorem test_conn_connect :
    leaves 0x55000050 (withArg0 0x2000 (withSlot { idleConn with reg := true, proto := .tcp, lport := 0x4000 }
      (held.setArgaddr ⟨0x0A000002, 0, 0, 0⟩))) (fun t => t.regs.res0 == 2 && t.conn 0 == clientSlot) = true := by decide +kernel

/-- CN11: E_PORT. -/
theorem test_conn_connect_port :
    reports 0x55000050 (withSlot { idleConn with proto := .tcp } held) = some (10, 0, 0) := by decide +kernel

/-- CN7. -/
theorem test_conn_close :
    leaves 0x56000000 (withSlot udpSlot held) (fun t => t.regs.res0 == 1 && (t.conn 0).state == .closing) = true := by decide +kernel

/-- P4 row 12. -/
theorem test_conn_update_syn :
    leaves 0x57FF0000 (withSlot clientSlot State.reset) (fun t => t.packet 0 == synPacket && (t.conn 0).retx == 0 &&
      (t.buf 0).ref == 1 && t.chainList OUTBOUND == [0]) = true := by decide +kernel

/-- P3 row 25. -/
theorem test_conn_update_closing :
    leaves 0x57FF0000 (withSlot { udpSlot with state := .closing } held) (fun t => (t.conn 0).state == .closed &&
      (t.conn 0).events == 2) = true := by decide +kernel

/-- CN12. -/
theorem test_conn_timeout :
    reports 0x58000000 (withSlot { clientSlot with synDue := false, retx := 0, retxCnt := 3 } (counted 1)) = some
      (0, 1, 0) := by decide +kernel

/-- CN13. -/
theorem test_conn_timeout_gives_up :
    leaves 0x58000000 (withSlot { clientSlot with synDue := false, retx := 0, retxCnt := 4 } (counted 1)) (fun t =>
      t.regs.res0 == 0 && (t.conn 0).events == 8) = true := by decide +kernel

/-- P4 row 19. -/
theorem test_conn_accept_syn :
    leaves 0x59000000 (withSlot serverSlot (withPacket synPacket)) (fun t => t.regs.res0 == 3 && t.conn 0 ==
      { rcvdSlot with rcvAck := 0x2001 }) = true := by decide +kernel

/-- CN3. -/
theorem test_conn_accept_udp :
    leaves 0x59000000 (withSlot udpSlot (withPacket udpPacket)) (fun t => t.regs.res0 == 1 && (t.conn 0).staged == 0
      && (t.conn 0).soff == 28 && (t.conn 0).events == 4) = true := by decide +kernel

/-- CN3. -/
theorem test_conn_read :
    reports 0x5A000002 (inHolder 0 (withSlot { udpSlot with staged := 0, soff := 28 } (withPacket udpPacket))) =
      some (0, 0x1020000, 2) := by decide +kernel

/-- CN2. -/
theorem test_conn_read_range :
    reports 0x5A000007 held = some (6, 0, 0) := by decide +kernel

/-- CN2. -/
theorem test_conn_write_unbound :
    reports 0x5B000003 (withSlot udpSlot held) = some (0, 0, 0) := by decide +kernel

/-- CN9. -/
theorem test_conn_write_overflow :
    leaves 0x5B000004 (withArg0 0x42434445 (withSlot
      { udpSlot with raddr := ⟨0x0A000002, 0, 0, 0⟩, rport := 9, rbound := true, wfifo := List.replicate 14 0x41 }
      State.reset)) (fun t => t.regs.res0 == 4 && (t.packet 0).drop 28 == List.replicate 14 0x41 ++ [0x42, 0x43,
      0x44, 0x45] && (t.conn 0).wfifo == []) = true := by decide +kernel

/-- P4 row 28. -/
theorem test_conn_status :
    reports 0x5C000000 (withSlot { openSlot with ackDue := true, retxCnt := 1 } held) = some (0, 0xFFFF143C, 0) := by decide +kernel

/-- P3 row 21. -/
theorem test_conn_events :
    leaves 0x5D000000 (withSlot { udpSlot with events := 5 } held) (fun t => t.regs.res0 == 5 && (t.conn 0).events
      == 0) = true := by decide +kernel

/-- CN5. -/
theorem test_conn_listener :
    leaves 0x5E000001 (withSlot udpSlot held) (fun t => (t.conn 0).listener) = true := by decide +kernel

/-- P4 row 41. -/
theorem test_conn_tcpinfo :
    reports 0x5F000000 (withSlot openSlot held) = some (0, 0x1001, 0x2001) := by decide +kernel

/-- P4 rows 42 and 43. -/
theorem test_conn_getremote :
    leaves 0x60000000 (withSlot openSlot held) (fun t => t.regs.res0 == 0x504000 && t.regs.res1 == 1 &&
      t.regs.argaddr.w0 == 0x0A000001) = true := by decide +kernel

/-- ER8. -/
theorem test_soft_reset :
    leaves 0x7F000000 (withSlot udpSlot (held.writeBytes 0 7 [0xEF])) (fun t => t.regRead 0x3C == 0x7F00 &&
      t.readByte 0 7 == 0xEF && t.chainList SPARE == [0, 1, 2, 3] && t.conn 0 == idleConn) = true := by decide +kernel

/-! ### Host accesses -/

/-- The value the host reads at `offset` (R75). -/
def reads (offset : Nat) (s : State) : Option Word :=
  match step { s with input := [.read offset 32] } with
  | .next t => t.readData
  | _ => none

/-- ER1. -/
theorem test_read_registers :
    reads 0x00 State.reset = some 0x804204 ∧ reads 0x04 State.reset = some 0x40010 ∧ reads 0x08 State.reset = some 0x1440 ∧
      reads 0x0C State.reset = some 0x58 ∧ reads 0x10 State.reset = some 0x0A000001 ∧ reads 0x38 State.reset = some 0 ∧
      reads 0xFC State.reset = some 0 := by decide +kernel

/-- CS10: CSSTAT. -/
theorem test_read_csstat : reads 0x4C (held.setCsa { acc := 0, odd := true, pend := 0xAB }) = some 0xAB01 := by decide +kernel

/-- R23, R25: reserved bits of CFG, and the address words that an IPv4 build lacks, ignore writes; a read-only register too. -/
theorem test_register_writes :
    (held.regWrite 0x08 0xFFFFFFFF).regRead 0x08 = 0x7FFF ∧ (held.regWrite 0x14 0xFFFFFFFF).regRead 0x14 = 0 ∧
      (held.regWrite 0x3C 0xFFFFFFFF).regRead 0x3C = held.regRead 0x3C ∧ (held.regWrite 0x34 5).regRead 0x34 = 5 := by
  decide +kernel

/-- ER2: an unassigned opcode. -/
theorem test_illegal : reports 0x0E010002 held = some (1, 0, 0) := by decide +kernel

/-- IPv6: SN36 and SN43. -/
theorem test_sniff_v6 :
    sniffBytes { ipv := .v6, csv := false, icmp4ph := false }
        (ofHex 60 0x6000000000140640_FE800000000000000000000000000001_FE800000000000000000000000000002_4000005000002000_0000000050020044524A0000) =
      .packet .okay 6 40 20 ∧
    sniffBytes { ipv := .v6, csv := false, icmp4ph := false }
        (ofHex 51 0x60000000000B1140_FE800000000000000000000000000001_FE800000000000000000000000000002_00070009000B0000010203) =
      .bad .protocolChecksum := by decide +kernel

/-! ### Witnesses: for every statement with hypotheses, states and operands that meet them

Each clause has a witness of its own, at the edges of its range: the last buffer is 3, the last chain 4, the last slot 3, the channels
are 1 and 2. -/

/-- `exec` answers a next state of which `p` holds. -/
def answered (i : Instr) (s : State) (p : State → Bool) : Bool :=
  match exec i s with
  | .next t => p t
  | _ => false

theorem of_answered {i : Instr} {s : State} {p : State → Bool} (h : answered i s p = true) :
    ∃ t, exec i s = .next t ∧ p t = true := by
  unfold answered at h
  split at h
  · exact ⟨_, ‹_›, h⟩
  · exact absurd h (by simp)

/-! #### Encoding and host accesses -/

theorem witness_IgnoredBitsHaveNoEffect :
    decode 0x57FF1234 = .instr (.connUpdate 0xFF) ∧
      (0x57FFABCD : Word) &&& (Instr.connUpdate 0xFF).usedBits = 0x57FF1234 &&& (Instr.connUpdate 0xFF).usedBits := by decide

theorem witness_UnassignedOpcodesAreIllegal :
    State.reset.build.valid ∧
      ({ State.reset with input := [.write 0x38 32 0x0E010002] } : State).input = .write 0x38 32 0x0E010002 :: [] := by decide

theorem witness_StepRunsTheDecodedCommand :
    State.reset.build.valid ∧ decode 0x01000000 = .instr .getSpare ∧ decodeTableWord 32 0x7F000000 = some .softReset ∧
      ({ State.reset with input := [.write 0x38 32 0x01000000] } : State).input = .write 0x38 32 0x01000000 :: [] ∧
      ({ State.reset with input := [.read 0x38 32] } : State).input = .read 0x38 32 :: [] := by decide

/-- A build that R13 excludes: one buffer. -/
def invalidState : State := { State.reset with build := { Config.testBuild with nbuf := 1 } }

/-- The next thing the host does is `a`. -/
def about (a : HostAccess) : State := { State.reset with input := [a] }

theorem witness_StepServesTheHost :
    (¬ invalidState.build.valid ∧ State.reset.build.valid ∧ State.reset.input = []) ∧
      ((about (.read 0x00 32)).input = .read 0x00 32 :: [] ∧ (about (.read 0xFC 32)).input = .read 0xFC 32 :: []) ∧
      ((about (.write 0x34 32 1)).input = .write 0x34 32 1 :: [] ∧ (about (.write 0x3C 32 1)).input = .write 0x3C 32 1 :: []) ∧
      ((about (.read 0x100 32)).input = .read 0x100 32 :: [] ∧ (about (.write 0xFF 32 1)).input = .write 0xFF 32 1 :: [] ∧
        (about (.read 0x3A 32)).input = .read 0x3A 32 :: [] ∧ (about (.write 0x38 16 1)).input = .write 0x38 16 1 :: []) := by
  decide +kernel

/-- The edge accesses of `witness_StepServesTheHost` end as the statement says. -/
theorem test_access_stops :
    step (about (.read 0x100 32)) = .fault .noSuchRegister ∧ step (about (.write 0xFF 32 1)) = .refused .undefinedAccess ∧
      step (about (.write 0x38 16 1)) = .refused .undefinedAccess ∧ step invalidState = .refused .invalidBuild :=
  ⟨rfl, rfl, rfl, rfl⟩

theorem witness_ReadOnlyRegistersShowTheirFields : State.reset.build.valid ∧ 0x50 ≤ 0x50 := by decide +kernel

theorem witness_ResetInputLeavesTheResetTable :
    State.reset.build.valid ∧ (about .reset).input = .reset :: [] ∧ Config.testBuild.valid := by decide +kernel

theorem witness_SoftResetKeepsOnlyTheData : State.reset.build.valid := by decide +kernel

theorem witness_ResetStateIsSound : Config.testBuild.valid := by decide

/-! #### The pool -/

theorem counted_sound : (counted 1).sound := sound_of_check (by decide +kernel)
theorem queued_sound : (queued 3).sound := sound_of_check (by decide +kernel)

theorem witness_GetSpareTakesTheHead :
    State.reset.sound ∧ State.reset.chainList SPARE = 0 :: [1, 2, 3] ∧ dry.sound ∧ dry.chainList SPARE = [] :=
  ⟨reset_sound, by decide +kernel, dry_sound, by decide +kernel⟩

theorem witness_AddSpareReturnsUnreferencedBuffers :
    (dry.sound ∧ ¬ dry.build.hasBuffer 4 ∧ dry.build.hasBuffer 3 ∧ dry.hostHeld 3 ∧ (dry.buf 3).ref = 0) ∧
      (held.sound ∧ held.build.hasBuffer 3 ∧ ¬ held.hostHeld 3) ∧
      ((counted 1).sound ∧ (counted 1).build.hasBuffer 0 ∧ (counted 1).hostHeld 0 ∧ ((counted 1).buf 0).ref ≠ 0) :=
  ⟨⟨dry_sound, by decide +kernel⟩, ⟨held_sound, by decide +kernel⟩, counted_sound, by decide +kernel⟩

theorem witness_QueueSwapsForASpare :
    (held.sound ∧ ¬ held.build.hasBuffer 4 ∧ held.build.hasBuffer 3 ∧ ¬ held.hostHeld 3) ∧
      (held.build.hasBuffer 0 ∧ held.hostHeld 0 ∧ held.chainList SPARE = 1 :: [2, 3]) ∧
      (dry.sound ∧ dry.build.hasBuffer 3 ∧ dry.hostHeld 3 ∧ dry.chainList SPARE = []) :=
  ⟨⟨held_sound, by decide +kernel⟩, by decide +kernel, dry_sound, by decide +kernel⟩

theorem witness_CountsAndTagsOfABuffer :
    (held.shaped ∧ ¬ held.build.hasBuffer 4 ∧ held.build.hasBuffer 3 ∧ (held.buf 3).loc = .chain SPARE ∧ ¬ held.hostHeld 3) ∧
      ((counted 255).shaped ∧ ((counted 255).buf 0).loc ≠ .chain SPARE ∧ ((counted 255).buf 0).ref = 255) ∧
      ((counted 254).shaped ∧ ((counted 254).buf 0).loc ≠ .chain SPARE ∧ ((counted 254).buf 0).ref ≠ 255) ∧
      ((held.buf 0).ref = 0 ∧ ((counted 1).buf 0).ref ≠ 0 ∧ held.hostHeld 0) ∧
      (held.build.bufCap < (129 : Half).toNat ∧ (128 : Half).toNat ≤ held.build.bufCap) := by decide +kernel

theorem witness_NopAndPoolQueriesOnlyReport :
    (0xFFFFFF : Word).toNat < 2 ^ 24 ∧ (¬ held.build.hasBuffer 4 ∧ held.build.hasBuffer 3) ∧
      (¬ held.build.hasChain 5 ∧ held.build.hasChain 4) ∧ (inHolder 3 held).build.hasBuffer 3 ∧
      ((inHolder 3 held).buf 3).loc = .hold ∧ (held.buf 0).loc = .off ∧ (held.buf 3).loc = .chain 0 := by decide +kernel

theorem witness_ChainPushAddsAtTheChosenEnd :
    (dry.sound ∧ ¬ dry.build.hasChain 5 ∧ dry.build.hasChain 4 ∧ dry.build.hasChain 1 ∧ (4 : Byte) ≠ 0) ∧
      (¬ dry.build.hasBuffer 4 ∧ dry.build.hasBuffer 3 ∧ dry.hostHeld 3) ∧
      (held.sound ∧ held.build.hasBuffer 3 ∧ ¬ held.hostHeld 3) :=
  ⟨⟨dry_sound, by decide +kernel⟩, by decide +kernel, held_sound, by decide +kernel⟩

theorem witness_ChainPopTakesTheHead :
    (queued 3).sound ∧ ¬ (queued 3).build.hasChain 5 ∧ (queued 3).build.hasChain 3 ∧ (queued 3).chainList 3 = 0 :: [1] ∧
      (queued 3).build.hasChain 4 ∧ (queued 3).chainList 4 = [] :=
  ⟨queued_sound, by decide +kernel⟩

theorem witness_ChainRemoveUnlinksAMember :
    (queued 3).sound ∧ ¬ (queued 3).build.hasChain 5 ∧ (queued 3).build.hasChain 3 ∧ ¬ (queued 3).build.hasBuffer 4 ∧
      (queued 3).build.hasBuffer 3 ∧ ((queued 3).buf 3).loc ≠ .chain 3 ∧ ((queued 3).buf 0).loc = .chain 3 ∧
      ((queued 3).buf 1).loc = .chain 3 :=
  ⟨queued_sound, by decide +kernel⟩

theorem witness_BufReadsReturnTheBytes :
    ¬ held.build.hasBuffer 4 ∧ held.build.hasBuffer 3 ∧ held.build.bufCap < (128 : Half).toNat + 1 ∧
      (127 : Half).toNat + 1 ≤ held.build.bufCap ∧ held.build.bufCap < (127 : Half).toNat + 2 ∧
      (126 : Half).toNat + 2 ≤ held.build.bufCap ∧ held.build.bufCap < (125 : Half).toNat + 4 ∧
      (124 : Half).toNat + 4 ≤ held.build.bufCap := by decide +kernel

theorem witness_BufWritesStoreTheBytes :
    held.build.valid ∧ ¬ held.build.hasBuffer 4 ∧ held.build.hasBuffer 3 ∧ ¬ held.hostHeld 3 ∧ held.hostHeld 0 ∧
      held.build.bufCap < (128 : Half).toNat + 1 ∧ (127 : Half).toNat + 1 ≤ held.build.bufCap ∧
      held.build.bufCap < (127 : Half).toNat + 2 ∧ (126 : Half).toNat + 2 ≤ held.build.bufCap ∧
      held.build.bufCap < (125 : Half).toNat + 4 ∧ (124 : Half).toNat + 4 ≤ held.build.bufCap := by decide +kernel

theorem witness_BuffersAreConserved : (queued 3).shaped ∧ (queued 3).poolOk := ⟨queued_sound.1, queued_sound.2.2⟩

/-! #### Rules about every command -/

theorem accept_sound : (withSlot udpSlot (withPacket udpPacket)).sound := sound_of_check (by decide +kernel)

theorem witness_EveryCommandKeepsThePool :
    (withSlot udpSlot (withPacket udpPacket)).sound ∧
      ∃ t, exec (.connAccept 0) (withSlot udpSlot (withPacket udpPacket)) = .next t ∧ (t.regs.res0 == 1) = true :=
  ⟨accept_sound, of_answered (p := fun t => t.regs.res0 == 1) (by decide +kernel)⟩

/-- The slot `x` with its one retransmit buffer, buffer 0, host-held again and holding the packet `d`. -/
def ownRetx (x : Conn) (d : List Byte) : State :=
  withSlot { x with synDue := false, synackDue := false, retx := 0, retxCnt := 1 }
    ((withPacket d).setBuf 0 fun y => { y with ref := 1 })

/-- Log entry 11: a slot that claims its own retransmit buffer gives it back once, or keeps it; R33 holds after CONN_ACCEPT. -/
theorem test_own_retx_keeps_the_pool :
    soundCheck (ownRetx clientSlot synAckPacket) && soundCheck (ownRetx rcvdSlot dataPacket) &&
      answered (.connAccept 0) (ownRetx clientSlot synAckPacket)
        (fun t => poolCheck t && t.regs.res0 == 3 && t.chainList SPARE == [0, 1, 2, 3]) &&
      answered (.connAccept 0) (ownRetx rcvdSlot dataPacket)
        (fun t => poolCheck t && t.regs.res0 == 1 && (t.conn 0).staged == 0 && (t.buf 0).ref == 0) &&
      answered (.connAccept 0) (ownRetx { rcvdSlot with listener := true } dataPacket)
        (fun t => poolCheck t && t.regs.res0 == 2 && (t.buf 0).loc == .off && (t.buf 0).ref == 0) = true := by decide +kernel

theorem witness_EveryStepKeepsTheFields :
    ((about (.write 0x38 32 0x01000000)).shaped ∧ fieldsCheck (about (.write 0x38 32 0x01000000)) = true) ∧
      reports 0x01000000 State.reset = some (0, 0, 0) := by decide +kernel

theorem witness_SoundCommandsComplete : State.reset.sound := reset_sound

theorem witness_ErrorsChangeOnlyStatus :
    ∃ t, exec (.ref 0) State.reset = .next t ∧ (t.regs.err == 4) = true :=
  of_answered (p := fun t => t.regs.err == 4) (by decide +kernel)

theorem witness_ErrorCodesFollowTheTable :
    operandCode (.ref 4) held = some 2 ∧ operandCode (.chainPush 5 4 false) held = some 3 ∧
      operandCode (.slipRx 3 0) held = some 8 ∧ operandCode (.connOpen 4) held = some 8 ∧
      operandCode (.csAddaddr 2) held = some 6 ∧
      (operandCode (.ref 3) held = none ∧ stateCode (.ref 3) held = some 4) ∧
      (operandCode (.ref 0) (counted 255) = none ∧ stateCode (.ref 0) (counted 255) = some 7) ∧
      (operandCode (.ref 0) held = none ∧ stateCode (.ref 0) held = none) ∧
      answered (.ref 0) held (fun _ => true) = true := by decide +kernel

theorem witness_UnitsKeepApart :
    Instr.getSpare ≠ .softReset ∧ ∃ t, exec .getSpare State.reset = .next t ∧ (t.regs.err == 0) = true :=
  ⟨by decide, of_answered (p := fun t => t.regs.err == 0) (by decide +kernel)⟩

/-- One change of STATE for each row of R300. -/
theorem witness_StateChangesFollowTheTable :
    answered (.connOpen 0) (withSlot { udpSlot with state := .closed } held) (fun t => (t.conn 0).state == .opened) = true ∧
      answered (.connOpen 0) (withSlot { serverSlot with state := .closed } held) (fun t => (t.conn 0).state == .listen) = true ∧
      answered (.connConnect 0 80) (withSlot { clientSlot with state := .closed } held)
        (fun t => (t.conn 0).state == .synSent) = true ∧
      answered (.connClose 0) (withSlot udpSlot held) (fun t => (t.conn 0).state == .closing) = true ∧
      answered (.connClose 0) (withSlot clientSlot held) (fun t => (t.conn 0).state == .closed) = true ∧
      answered (.connReset 0) (withSlot udpSlot held) (fun t => (t.conn 0).state == .closed) = true ∧
      answered (.connUpdate 0xFF) (withSlot { udpSlot with state := .closing } held)
        (fun t => (t.conn 0).state == .closed) = true ∧
      answered (.connAccept 0) (withSlot serverSlot (withPacket synPacket)) (fun t => (t.conn 0).state == .synRcvd) = true ∧
      answered .softReset (withSlot udpSlot held) (fun t => (t.conn 0).state == .closed) = true := by decide +kernel

/-! #### Checksums and headers -/

theorem witness_AccumulatorCommandsAddTheirBytes :
    ¬ held.build.hasBuffer 4 ∧ held.build.hasBuffer 3 ∧
      held.build.bufCap < (128 : Half).toNat + ((withArg0 1 held).regs.arg0.extractLsb' 0 16).toNat ∧
      (128 : Half).toNat + (held.regs.arg0.extractLsb' 0 16).toNat ≤ held.build.bufCap ∧
      1 < (2 : Byte).toNat := by decide +kernel

theorem witness_PiecesSumAsOneSequence :
    (held.setCsa (addBytes { acc := 0, odd := false, pend := 0 } [1, 2, 3])).csa =
      addBytes { acc := 0, odd := false, pend := 0 } [1, 2, 3] := rfl

theorem witness_EndAroundCarryAndFold : (65535 : Word).toNat < 65536 ∧ 65536 ≤ (65536 : Word).toNat := by decide

theorem witness_ChecksumProperties :
    ([1, 2, 3, 4] : List Byte).length % 2 = 0 ∧ 2 % 2 = 0 ∧ 2 + 2 ≤ ([1, 2, 3, 4] : List Byte).length ∧
      ([(1, 2), (3, 4)] : List (Byte × Byte)).Perm [(3, 4), (1, 2)] := by decide

/-- The mode of the test build at reset. -/
def mode4 : SniffMode := { ipv := .v4, csv := false, icmp4ph := false }

theorem witness_TruncationIsNeverAccepted :
    sniffBytes mode4 synPacket = .packet .okay 6 20 20 ∧ sniffBytes mode4 udpPacket = .packet .okay 17 20 11 ∧
      sniffBytes mode4 echoPacket = .packet .echoRequest 1 20 12 := by decide +kernel

theorem witness_CorruptionIsNoticed :
    (40 < dataPacket.length ∧ (0x49 : Byte) ≠ byteAt dataPacket 40 ∧ sniffBytes mode4 dataPacket = .packet .okay 6 20 24 ∧
        20 + (byteAt dataPacket (20 + 12)).toNat / 16 * 4 ≤ 40) ∧
      (28 < udpPacket.length ∧ (9 : Byte) ≠ byteAt udpPacket 28 ∧ sniffBytes mode4 udpPacket = .packet .okay 17 20 11 ∧
        be16At udpPacket (20 + 6) ≠ 0 ∧ 20 + 8 ≤ 28) := by decide +kernel

theorem witness_BuiltPacketsSniffOkay :
    held.shaped ∧ held.build.hasBuffer 3 ∧ (List.replicate 88 (1 : Byte)).length ≤ held.build.maxpayTcp ∧
      (List.replicate 100 (1 : Byte)).length ≤ held.build.maxpayUdp := by decide +kernel

theorem witness_EchoRequestThenReply : held.shaped ∧ held.build.hasBuffer 0 ∧ held.hostHeld 0 := by decide +kernel

theorem witness_PingToPongWritesTheReply :
    (¬ held.build.hasBuffer 4 ∧ held.build.hasBuffer 3 ∧ ¬ held.hostHeld 3) ∧
      ((withPacket echoPacket).build.hasBuffer 0 ∧ (withPacket echoPacket).hostHeld 0 ∧
        (withPacket echoPacket).sniff 0 = .packet .echoRequest 1 20 12) ∧
      ((withPacket synPacket).build.hasBuffer 0 ∧ (withPacket synPacket).hostHeld 0 ∧
        (withPacket synPacket).sniff 0 = .packet .okay 6 20 20) := by decide +kernel

theorem witness_BuildEchoWritesTheRequest :
    held.shaped ∧ ¬ held.build.hasBuffer 4 ∧ held.build.hasBuffer 3 ∧ ¬ held.hostHeld 3 ∧ held.hostHeld 0 ∧
      held.build.ipv = .v4 := by decide +kernel

/-! #### Channels -/

theorem witness_SlipRxDecodesAByte :
    (dry.sound ∧ ¬ dry.build.hasChannel 0 ∧ ¬ dry.build.hasChannel 3 ∧ dry.build.hasChannel 1 ∧ dry.build.hasChannel 2 ∧
        (dry.slip 1).rxbuf = NONE ∧ dry.chainList SPARE = [] ∧ (0xDB : Byte) ≠ 0xC0) ∧
      ((receiving held 1).sound ∧ ((receiving held 1).slip 1).rxbuf ≠ NONE ∧ ((receiving held 1).slip 1).rxesc = false ∧
        ((receiving held 1).buf 0).len.toNat ≠ (receiving held 1).build.bufCap) ∧
      ((receiving held 128 true).sound ∧ ((receiving held 128 true).slip 1).rxbuf = 0 ∧
        ((receiving held 128 true).slip 1).rxesc = true ∧
        ((receiving held 128 true).buf 0).len.toNat = (receiving held 128 true).build.bufCap) ∧
      (held.sound ∧ (held.slip 1).rxbuf = NONE ∧ held.chainList SPARE = 1 :: [2, 3]) :=
  ⟨⟨dry_sound, by decide +kernel⟩, ⟨sound_of_check (by decide +kernel), by decide +kernel⟩,
    ⟨sound_of_check (by decide +kernel), by decide +kernel⟩, held_sound, by decide +kernel⟩

theorem witness_SlipRxEndsAFrame :
    (held.sound ∧ held.build.hasChannel 1 ∧ (held.slip 1).rxbuf = NONE) ∧
      ((receiving held 0).sound ∧ ((receiving held 0).slip 1).rxbuf ≠ NONE ∧
        ((receiving held 0).buf ((receiving held 0).slip 1).rxbuf).len = 0) ∧
      ((receiving held 1 true).sound ∧ ((receiving held 1 true).slip 1).rxesc = true) ∧
      ((receiving held 1 false true).sound ∧ ((receiving held 1 false true).slip 1).rxovf = true) ∧
      ((receiving held 1).sound ∧ ((receiving held 1).slip 1).rxovf = false ∧ ((receiving held 1).slip 1).rxesc = false ∧
        ((receiving held 1).buf ((receiving held 1).slip 1).rxbuf).len ≠ 0 ∧ (receiving held 1).chainList SPARE = 1 :: [2, 3]) ∧
      ((receiving dry 1).sound ∧ ((receiving dry 1).slip 1).rxbuf ≠ NONE ∧ ((receiving dry 1).slip 1).rxovf = false ∧
        ((receiving dry 1).slip 1).rxesc = false ∧ ((receiving dry 1).buf ((receiving dry 1).slip 1).rxbuf).len ≠ 0 ∧
        (receiving dry 1).chainList SPARE = []) :=
  ⟨⟨held_sound, by decide +kernel⟩, ⟨sound_of_check (by decide +kernel), by decide +kernel⟩,
    ⟨sound_of_check (by decide +kernel), by decide +kernel⟩, ⟨sound_of_check (by decide +kernel), by decide +kernel⟩,
    ⟨sound_of_check (by decide +kernel), by decide +kernel⟩, sound_of_check (by decide +kernel), by decide +kernel⟩

/-- Every phase, and in DATA every kind of byte and the end: the states are sound and the phases as said. -/
theorem witness_SlipTxGivesTheNextByte :
    (held.sound ∧ ¬ held.build.hasChannel 0 ∧ ¬ held.build.hasChannel 3 ∧ held.build.hasChannel 1 ∧ held.build.hasChannel 2 ∧
        (held.slip 1).txcur = NONE ∧ held.chainList (2 + 1) = []) ∧
      ((queued 3).sound ∧ ((queued 3).slip 1).txcur = NONE ∧ (queued 3).chainList (2 + 1) = 0 :: [1]) ∧
      ((sending .lead 0).sound ∧ (sending .escDc 1).sound ∧ (sending .escDd 2).sound) ∧
      ((sending .data 0).sound ∧ (sending .data 0).readByte 0 0 = 0x01 ∧ (0 : Half) ≠ ((sending .data 0).buf 0).len) ∧
      ((sending .data 1).sound ∧ (sending .data 1).readByte 0 1 = 0xC0) ∧
      ((sending .data 2).sound ∧ (sending .data 2).readByte 0 2 = 0xDB) ∧
      ((sending .data 4).sound ∧ ((sending .data 4).slip 1).txpos = ((sending .data 4).buf 0).len) :=
  ⟨⟨held_sound, by decide +kernel⟩, ⟨queued_sound, by decide +kernel⟩,
    ⟨sound_of_check (by decide +kernel), sound_of_check (by decide +kernel), sound_of_check (by decide +kernel)⟩,
    ⟨sound_of_check (by decide +kernel), by decide +kernel⟩, ⟨sound_of_check (by decide +kernel), by decide +kernel⟩,
    ⟨sound_of_check (by decide +kernel), by decide +kernel⟩, sound_of_check (by decide +kernel), by decide +kernel⟩

/-- The head of TX(1) of `queued 3`, referenced. -/
def queuedRef : State := (queued 3).setBuf 0 fun x => { x with ref := 1 }

theorem witness_SlipTxSendsAWholeFrame :
    ((queued 3).sound ∧ (queued 3).build.hasChannel 1 ∧ ((queued 3).slip 1).txcur = NONE ∧
        (queued 3).chainList (2 + 1) = 0 :: [1] ∧ ((queued 3).buf 0).ref = 0) ∧
      (queuedRef.sound ∧ queuedRef.build.hasChannel 1 ∧ (queuedRef.slip 1).txcur = NONE ∧
        queuedRef.chainList (2 + 1) = 0 :: [1] ∧ (queuedRef.buf 0).ref ≠ 0) :=
  ⟨⟨queued_sound, by decide +kernel⟩, sound_of_check (by decide +kernel), by decide +kernel⟩

theorem witness_SlipRxReceivesAWholeFrame :
    State.reset.sound ∧ State.reset.build.hasChannel 1 ∧ State.reset.build.hasChannel 2 ∧ (State.reset.slip 1).rxbuf = NONE ∧
      (State.reset.slip 1).rxesc = false ∧ (State.reset.slip 1).rxovf = false ∧ 1 ≤ ([0xC0] : List Byte).length ∧
      (List.replicate 128 (0xDB : Byte)).length ≤ State.reset.build.bufCap ∧
      State.reset.chainList SPARE = 0 :: 1 :: [2, 3] :=
  ⟨reset_sound, by decide +kernel⟩

/-! #### Slots -/

/-- Buffers 0 and 1 host-held. -/
def held2 : State := held.takeSpare.2

/-- Slot 0 with buffer 0 staged. -/
def stagedSlot : State := inHolder 0 (withSlot { udpSlot with staged := 0, soff := 28 } (withPacket udpPacket))

/-- Slot 0 with buffer 1 as its retransmit buffer, host-held again with its one reference. -/
def retxSlot : State :=
  withSlot { clientSlot with synDue := false, retx := 1, retxCnt := 1, retxDue := true } (held2.setBuf 1 fun x => { x with ref := 1 })

/-- Slot 0 with both. -/
def fullSlot : State :=
  inHolder 0 (withSlot { clientSlot with synDue := false, retx := 1, retxCnt := 1, staged := 0 }
    ((held2.setBuf 1 fun x => { x with ref := 1 }).setBuf 0 fun x => { x with len := 1 }))

theorem retxSlot_sound : retxSlot.sound := sound_of_check (by decide +kernel)
theorem stagedSlot_sound : stagedSlot.sound := sound_of_check (by decide +kernel)

theorem witness_ConnInitAndResetIdleTheSlot :
    (held.sound ∧ ¬ held.build.hasSlot 4 ∧ held.build.hasSlot 3 ∧ (held.conn 3).staged = NONE ∧ (held.conn 3).retx = NONE) ∧
      (stagedSlot.sound ∧ (stagedSlot.conn 0).staged ≠ NONE ∧ (stagedSlot.conn 0).retx = NONE) ∧
      (retxSlot.sound ∧ (retxSlot.conn 0).staged = NONE ∧ (retxSlot.conn 0).retx ≠ NONE) ∧
      (fullSlot.sound ∧ (fullSlot.conn 0).staged ≠ NONE ∧ (fullSlot.conn 0).retx ≠ NONE) :=
  ⟨⟨held_sound, by decide +kernel⟩, ⟨stagedSlot_sound, by decide +kernel⟩, ⟨retxSlot_sound, by decide +kernel⟩,
    sound_of_check (by decide +kernel), by decide +kernel⟩

theorem witness_SlotSettingsWriteTheirFields :
    held.shaped ∧ ¬ held.build.hasSlot 4 ∧ held.build.hasSlot 3 ∧ (held.conn 3).state = .closed ∧
      ((withSlot udpSlot held).shaped ∧ (withSlot udpSlot held).build.hasSlot 0 ∧
        ((withSlot udpSlot held).conn 0).state ≠ .closed) := by decide +kernel

/-- A closed TCP slot with a local port, one without, and a closed UDP slot with one. -/
def closedTcp : State := withSlot { serverSlot with state := .closed } held
def portless : State := withSlot { idleConn with proto := .tcp } held
def closedUdp : State := withSlot { udpSlot with state := .closed } held

theorem witness_OpenAndConnectEnterTheirStates :
    (held.shaped ∧ ¬ held.build.hasSlot 4 ∧ held.build.hasSlot 3 ∧ (held.conn 3).state = .closed ∧ (held.conn 3).lport = 0 ∧
        (held.conn 3).proto = .udp) ∧
      ((withSlot udpSlot held).shaped ∧ ((withSlot udpSlot held).conn 0).state ≠ .closed) ∧
      (closedUdp.shaped ∧ (closedUdp.conn 0).state = .closed ∧ (closedUdp.conn 0).lport ≠ 0 ∧ (closedUdp.conn 0).proto = .udp) ∧
      (closedTcp.shaped ∧ (closedTcp.conn 0).state = .closed ∧ (closedTcp.conn 0).lport ≠ 0 ∧ (closedTcp.conn 0).proto = .tcp) ∧
      (portless.shaped ∧ (portless.conn 0).state = .closed ∧ (portless.conn 0).lport = 0 ∧ (portless.conn 0).proto = .tcp) :=
  ⟨by decide +kernel, by decide +kernel, by decide +kernel, by decide +kernel, by decide +kernel⟩

theorem witness_CloseDrainsOrAbandons :
    (held.sound ∧ ¬ held.build.hasSlot 4 ∧ held.build.hasSlot 3 ∧ (held.conn 3).state = .closed) ∧
      ((withSlot { udpSlot with state := .closing } held).sound ∧
        ((withSlot { udpSlot with state := .closing } held).conn 0).state = .closing) ∧
      (stagedSlot.sound ∧ (stagedSlot.conn 0).state = .opened) ∧
      ((withSlot serverSlot held).sound ∧ ((withSlot serverSlot held).conn 0).state = .listen ∧
        ((withSlot serverSlot held).conn 0).retx = NONE) ∧
      (retxSlot.sound ∧ (retxSlot.conn 0).state = .synSent ∧ (retxSlot.conn 0).retx ≠ NONE) ∧
      ((withSlot rcvdSlot held).sound ∧ ((withSlot rcvdSlot held).conn 0).state = .synRcvd) :=
  ⟨⟨held_sound, by decide +kernel⟩, ⟨sound_of_check (by decide +kernel), by decide +kernel⟩,
    ⟨stagedSlot_sound, by decide +kernel⟩, ⟨sound_of_check (by decide +kernel), by decide +kernel⟩,
    ⟨retxSlot_sound, by decide +kernel⟩, sound_of_check (by decide +kernel), by decide +kernel⟩

/-- Buffer 0 host-held in an IPv6 build. -/
def held6 : State := (State.resetOf { Config.testBuild with ipv := .v6 }).takeSpare.2

/-- SN36: the SYN of an IPv6 build, fe80::1 to fe80::2. -/
def synPacket6 : List Byte :=
  ofHex 60 0x6000000000140640_FE800000000000000000000000000001_FE800000000000000000000000000002_4000005000002000_0000000050020044524A0000

/-- SN41: an echo request of an IPv6 build. -/
def echoPacket6 : List Byte :=
  ofHex 52 0x60000000000C3A40_FE800000000000000000000000000001_FE800000000000000000000000000002_8000D2E112340001DEADBEEF

/-- SN42: a datagram of an IPv6 build. -/
def udpPacket6 : List Byte :=
  ofHex 51 0x60000000000B1140_FE800000000000000000000000000001_FE800000000000000000000000000002_00070009000BFEC1010203

/-- Each packet of the list sniffs as the code beside it in the build of `s`. -/
def sniffs (s : State) (l : List (List Byte × HeaderSniff)) : Bool :=
  l.all fun p =>
    match (packetIn s p.1).sniff 0 with
    | .bad e => e == p.2
    | .packet e _ _ _ => e == p.2

/-- A packet for every check of R180 in an IPv4 build, at the edges of the lengths: SN2 to SN12 and their like. -/
theorem witness_sniff_v4 :
    sniffs held [([], .frameError), (synPacket.set 0 0x65, .ipv6), (synPacket.set 0 0x55, .frameError),
      (synPacket.take 19, .ipv4PacketTooShort), ((synPacket.take 20).set 0 0x44, .ipv4FrameError),
      ((synPacket.take 23).set 0 0x46, .ipv4PacketTooShort), (synPacket ++ [0], .ipv4FrameError),
      (synPacket.take 20, .ipv4FrameError), (synPacket.set 8 63, .ipv4Checksum),
      (patch synPacket 9 [0x02, 0x66, 0xD2], .protocolUnsupported),
      (patch synPacket 9 [0x3A, 0x66, 0x9A], .protocolUnsupported)] = true := by decide +kernel

/-- A packet for every check of R182 to R184: SN1 and SN13 to SN26. -/
theorem witness_sniff_messages :
    sniffs held [(synPacket, .okay), (patch (patch (synPacket.take 39) 2 [0, 39]) 10 [0x66, 0xCF], .protocolPacketTooShort),
      (synPacket.set 32 0x40, .protocolFrameError), (synPacket.set 32 0x60, .protocolPacketTooShort),
      (synPacket.set 37 0xC7, .protocolChecksum), (udpPacket, .okay), (patch udpPacket 26 [0, 0], .okay),
      (udpPacket.set 25 12, .protocolFrameError), (udpPacket.set 27 0xC2, .protocolChecksum),
      (patch (patch (udpPacket.take 27) 2 [0, 27]) 10 [0x66, 0xD0], .protocolPacketTooShort), (emptyUdpPacket, .okay),
      (echoPacket, .echoRequest), (patch echoPacket 20 [0, 0, 0x50, 0x2D], .echoReply),
      (patch echoPacket 20 [3, 0, 0x4D, 0x2D], .protocolUnsupported), (echoPacket.set 20 3, .protocolChecksum),
      (patch (patch (echoPacket.take 27) 2 [0, 27]) 10 [0x66, 0xE0], .protocolPacketTooShort)] = true := by decide +kernel

/-- The same in an IPv6 build: SN36 to SN44. -/
theorem witness_sniff_v6 :
    sniffs held6 [([], .frameError), (synPacket, .ipv4), (synPacket6.set 0 0x50, .frameError),
      (synPacket6.take 39, .ipv6PacketTooShort), (synPacket6.take 40, .ipv6FrameError), (synPacket6 ++ [0], .ipv6FrameError),
      (synPacket6.set 6 1, .protocolUnsupported), (synPacket6, .okay), (echoPacket6, .echoRequest),
      (patch echoPacket6 40 [0x81, 0, 0xD1, 0xE1], .echoReply), (udpPacket6, .okay),
      (patch udpPacket6 46 [0, 0], .protocolChecksum)] = true := by decide +kernel

theorem witness_UnitQueriesReport :
    held.build.valid ∧ (¬ held.build.hasBuffer 4 ∧ held.build.hasBuffer 3 ∧ held.sniff 3 = .bad .frameError) ∧
      (withPacket synPacket).sniff 0 = .packet .okay 6 20 20 ∧
      (¬ held.build.hasChannel 0 ∧ ¬ held.build.hasChannel 3 ∧ held.build.hasChannel 1 ∧ held.build.hasChannel 2) ∧
      (¬ held.build.hasSlot 4 ∧ held.build.hasSlot 3) := by decide +kernel

theorem witness_ReadTakesFromTheStream :
    (held.sound ∧ ¬ held.build.hasSlot 4 ∧ held.build.hasSlot 3 ∧ 4 < (5 : BitVec 3).toNat ∧ (4 : BitVec 3).toNat ≤ 4) ∧
      (stagedSlot.sound ∧ stagedSlot.build.hasSlot 0 ∧ stagedSlot.stream 0 = [1, 2, 3] ∧ (stagedSlot.conn 0).staged ≠ NONE) :=
  ⟨⟨held_sound, by decide +kernel⟩, stagedSlot_sound, by decide +kernel⟩

/-- Refill at the edge: a FIFO that fills just as the staged buffer is used up releases it, one byte less room keeps it. -/
theorem test_refill_edge :
    (let s := stagedSlot.setConn 0 fun x => { x with rfifo := List.replicate 13 0 }
     soundCheck s && ((s.refill 0).conn 0).staged == NONE && ((s.refill 0).conn 0).rfifo.length == 16) &&
      (let s := stagedSlot.setConn 0 fun x => { x with rfifo := List.replicate 14 0 }
       soundCheck s && ((s.refill 0).conn 0).staged == 0 && ((s.refill 0).conn 0).soff == 30) = true := by decide +kernel

/-- A bound UDP slot with `n` bytes in its write FIFO. -/
def writing (n : Nat) : Conn :=
  { udpSlot with raddr := ⟨0x0A000002, 0, 0, 0⟩, rport := 9, rbound := true, wfifo := List.replicate n 0x41 }

theorem writing_sound : (withSlot (writing 13) State.reset).sound := sound_of_check (by decide +kernel)

theorem witness_WriteFillsTheFifoThenSends :
    (held.sound ∧ ¬ held.build.hasSlot 4 ∧ held.build.hasSlot 3 ∧ 4 < (5 : BitVec 3).toNat ∧ (held.conn 3).state ≠ .opened) ∧
      ((withSlot (writing 12) State.reset).sound ∧ ((withSlot (writing 12) State.reset).conn 0).state = .opened ∧
        ((withSlot (writing 12) State.reset).conn 0).rbound = true ∧
        (4 : BitVec 3).toNat ≤
          (withSlot (writing 12) State.reset).build.fifoCap - ((withSlot (writing 12) State.reset).conn 0).wfifo.length) ∧
      ((withSlot (writing 13) State.reset).sound ∧ (withSlot (writing 13) State.reset).chainList SPARE = 0 :: [1, 2, 3] ∧
        (withSlot (writing 13) State.reset).build.fifoCap - ((withSlot (writing 13) State.reset).conn 0).wfifo.length <
          (4 : BitVec 3).toNat) ∧
      ((withSlot (writing 13) dry).sound ∧ (withSlot (writing 13) dry).chainList SPARE = []) :=
  ⟨⟨held_sound, by decide +kernel⟩, ⟨sound_of_check (by decide +kernel), by decide +kernel⟩,
    ⟨writing_sound, by decide +kernel⟩, sound_of_check (by decide +kernel), by decide +kernel⟩

/-- A due SYN, a due SYN-ACK, a due bare ACK in each of its states, with and without a spare. -/
theorem witness_UpdateSendsTheDueSegment :
    (([clientSlot, rcvdSlot, { rcvdSlot with synackDue := false, ackDue := true }, { openSlot with ackDue := true },
        { openSlot with state := .closing, ackDue := true }] : List Conn).all fun x =>
      soundCheck (withSlot x State.reset) && soundCheck (withSlot x dry) &&
        decide (((withSlot x State.reset).refill 0).chainList SPARE = 0 :: [1, 2, 3]) &&
        decide (((withSlot x dry).refill 0).chainList SPARE = []) && decide (x.proto = .tcp) &&
        (decide (x.state = .synSent ∧ x.synDue = true ∨ x.state = .synRcvd ∧ x.synackDue = true) ||
          decide (x.ackDue = true ∧ (x.state = .synRcvd ∧ x.synackDue = false ∧ x.retxDue = false ∨
            (x.state = .opened ∨ x.state = .closing) ∧ x.wfifo = [])))) = true := by decide +kernel

theorem witness_UpdateDrainsTheFifoAndCloses :
    (([writing 1, { writing 16 with state := .closing }, { openSlot with wfifo := [1] },
        { openSlot with state := .closing, wfifo := [1] }] : List Conn).all fun x =>
      soundCheck (withSlot x State.reset) && soundCheck (withSlot x dry) && decide (x.wfifo ≠ []) &&
        decide (((withSlot x State.reset).refill 0).chainList SPARE = 0 :: [1, 2, 3]) &&
        decide (((withSlot x dry).refill 0).chainList SPARE = []) &&
        decide ((x.state = .opened ∨ x.state = .closing) ∧ x.rbound = true)) = true ∧
      (soundCheck (withSlot { udpSlot with state := .closing } held) &&
        soundCheck (withSlot { openSlot with state := .closing } held)) = true ∧
      (([idleConn, { udpSlot with wfifo := [1] }, { udpSlot with state := .closing, wfifo := [1] }, serverSlot, openSlot,
          { clientSlot with synDue := false, ackDue := true }, { rcvdSlot with synackDue := false }] : List Conn).all fun x =>
        soundCheck (withSlot x held) && (decide (x.wfifo = []) || decide (x.proto = .udp ∧ x.rbound = false)) &&
          decide (x.state ≠ .closing ∨ x.wfifo ≠ [])) = true := by decide +kernel

/-- The retained segment host-held, still on a chain, and absent. -/
theorem witness_UpdateRetransmitsAndServesAll :
    (held.sound ∧ ¬ held.build.hasSlot 4 ∧ (4 : Byte) ≠ 0xFF) ∧
      (retxSlot.sound ∧ (retxSlot.conn 0).proto = .tcp ∧ (retxSlot.conn 0).retxDue = true ∧ (retxSlot.conn 0).state = .synSent ∧
        (retxSlot.conn 0).synDue = false ∧ (retxSlot.conn 0).retx = 1 ∧ ((retxSlot.refill 0).buf 1).loc = .off) ∧
      ((retxSlot.pushTail OUTBOUND 1).sound ∧ ((retxSlot.pushTail OUTBOUND 1).conn 0).retxDue = true ∧
        (((retxSlot.pushTail OUTBOUND 1).refill 0).buf 1).loc ≠ .off) ∧
      ((withSlot { rcvdSlot with synackDue := false, retxDue := true } held).sound ∧
        ((withSlot { rcvdSlot with synackDue := false, retxDue := true } held).conn 0).retx = NONE) :=
  ⟨⟨held_sound, by decide +kernel⟩, ⟨retxSlot_sound, by decide +kernel⟩,
    ⟨sound_of_check (by decide +kernel), by decide +kernel⟩, sound_of_check (by decide +kernel), by decide +kernel⟩

theorem witness_TimeoutSchedulesOrGivesUp :
    (held.shaped ∧ ¬ held.build.hasSlot 4 ∧ held.build.hasSlot 3 ∧ (held.conn 3).proto = .udp) ∧
      (retxSlot.shaped ∧ (retxSlot.conn 0).proto = .tcp ∧ (retxSlot.conn 0).state = .synSent ∧ (retxSlot.conn 0).retx ≠ NONE ∧
        (retxSlot.conn 0).retxCnt.toNat < (retxSlot.regs.cfg.extractLsb' 8 4).toNat) ∧
      ((withSlot { clientSlot with synDue := false, retx := 1, retxCnt := 4 } retxSlot).shaped ∧
        (retxSlot.regs.cfg.extractLsb' 8 4).toNat ≤
          ((withSlot { clientSlot with synDue := false, retx := 1, retxCnt := 4 } retxSlot).conn 0).retxCnt.toNat) := by
  decide +kernel

/-! #### Accept -/

/-- Slot `x` at 0 and the packet `d` in the host-held buffer 0 meet the premises common to the CONN_ACCEPT statements. -/
def acceptCheck (x : Conn) (d : List Byte) (p : Byte) (n : Nat) : Bool :=
  let s := withSlot x (withPacket d)
  soundCheck s && decide (s.build.hasBuffer 0) && decide (s.hostHeld 0) && decide (s.sniff 0 = .packet .okay p 20 n) &&
    decide (s.claims 0 0 p 20)

theorem accept_premises {x : Conn} {d : List Byte} {p : Byte} {n : Nat} (h : acceptCheck x d p n = true) :
    (withSlot x (withPacket d)).sound ∧ (withSlot x (withPacket d)).build.hasBuffer 0 ∧
      (withSlot x (withPacket d)).hostHeld 0 ∧ (withSlot x (withPacket d)).sniff 0 = .packet .okay p 20 n ∧
      (withSlot x (withPacket d)).firstClaims 0 0 p 20 := by
  simp only [acceptCheck, Bool.and_eq_true, decide_eq_true_eq] at h
  exact ⟨sound_of_check h.1.1.1.1, h.1.1.1.2, h.1.1.2, h.1.2, (by decide +kernel : 0 < Config.testBuild.nconn), h.2,
    fun _ hj => absurd hj (Nat.not_lt_zero _)⟩

/-- A second buffer staged on slot 0: the premises of the drops by a full slot. -/
def stagedAndPacket (x : Conn) (d : List Byte) : State :=
  inHolder 1 (withSlot { x with staged := 1 }
    (((held2.writeBytes 0 0 d).setBuf 0 fun y => { y with len := BitVec.ofNat 16 d.length }).setBuf 1 fun y => { y with len := 1 }))

theorem witness_AcceptTakesADatagram :
    acceptCheck { udpSlot with state := .closing } udpPacket 17 11 = true ∧
      acceptCheck { udpSlot with listener := true } udpPacket 17 11 = true ∧
      acceptCheck udpSlot emptyUdpPacket 17 8 = true ∧ acceptCheck udpSlot udpPacket 17 11 = true ∧
      (let s := stagedAndPacket udpSlot udpPacket
       soundCheck s = true ∧ s.hostHeld 0 ∧ s.sniff 0 = .packet .okay 17 20 11 ∧ s.claims 0 0 17 20 ∧
        (s.conn 0).staged ≠ NONE) := by decide +kernel

/-- Slot 0 listens and slot 1 is `x`; both have the port of the packet `d` in the host-held buffer 0. -/
def afterListener (x : Conn) (d : List Byte) : State := (withSlot serverSlot (withPacket d)).setConn 1 fun _ => x

/-- Every state and kind of segment, and a claim past a listening slot that rejects. -/
theorem witness_AcceptAdvancesTheHandshake :
    (acceptCheck serverSlot synPacket 6 20 = true ∧ ((withPacket synPacket).segment 0 20 20).fl = 0x02) ∧
      (acceptCheck clientSlot synAckPacket 6 20 = true ∧
        ((withPacket synAckPacket).segment 0 20 20).ackn = clientSlot.sndSeq + 1 ∧
        ((withPacket synAckPacket).segment 0 20 20).fl = 0x12) ∧
      (acceptCheck { clientSlot with sndSeq := 0x2001 } synAckPacket 6 20 = true ∧
        ((withPacket synAckPacket).segment 0 20 20).ackn ≠ 0x2001 + 1) ∧
      (acceptCheck rcvdSlot ackPacket 6 20 = true ∧
        (withPacket ackPacket).segment 0 20 20 = { seq := 0x2001, ackn := 0x1001, fl := 0x10, poff := 40, plen := 0 }) ∧
      (acceptCheck { rcvdSlot with sndSeq := 0x1001 } ackPacket 6 20 = true) ∧
      (acceptCheck { rcvdSlot with rcvAck := 0x2000 } dataPacket 6 24 = true ∧ acceptCheck rcvdSlot dataPacket 6 24 = true ∧
        acceptCheck { rcvdSlot with listener := true } dataPacket 6 24 = true ∧
        (withPacket dataPacket).segment 0 20 24 = { seq := 0x2001, ackn := 0x1001, fl := 0x18, poff := 40, plen := 4 }) ∧
      (let s := stagedAndPacket rcvdSlot dataPacket
       soundCheck s = true ∧ s.hostHeld 0 ∧ s.sniff 0 = .packet .okay 6 20 24 ∧ s.claims 0 0 6 20) ∧
      (let s := ownRetx rcvdSlot ackPacket
       soundCheck s = true ∧ s.hostHeld 0 ∧ s.sniff 0 = .packet .okay 6 20 20 ∧ s.claims 0 0 6 20 ∧ (s.conn 0).retx = 0) ∧
      (let s := afterListener rcvdSlot ackPacket
       soundCheck s = true ∧ s.hostHeld 0 ∧ s.sniff 0 = .packet .okay 6 20 20 ∧ s.admits 0 0 6 20 ∧ ¬ s.claims 0 0 6 20 ∧
        s.claims 1 0 6 20) :=
  ⟨by decide +kernel, by decide +kernel, by decide +kernel, by decide +kernel, by decide +kernel, by decide +kernel,
    by decide +kernel, by decide +kernel, by decide +kernel⟩

theorem witness_AcceptTakesInOrderData :
    (acceptCheck { openSlot with state := .closing } dataPacket 6 24 = true ∧
        acceptCheck { openSlot with rcvAck := 0x2000 } dataPacket 6 24 = true ∧ acceptCheck openSlot ackPacket 6 20 = true ∧
        acceptCheck { openSlot with listener := true } dataPacket 6 24 = true ∧
        acceptCheck openSlot dataPacket 6 24 = true) ∧
      (withPacket dataPacket).segment 0 20 24 = { seq := 0x2001, ackn := 0x1001, fl := 0x18, poff := 40, plen := 4 } ∧
      (let s := stagedAndPacket openSlot dataPacket
       soundCheck s = true ∧ s.hostHeld 0 ∧ s.sniff 0 = .packet .okay 6 20 24 ∧ s.claims 0 0 6 20 ∧
        (s.conn 0).staged ≠ NONE) := by decide +kernel

theorem witness_AcceptIsExclusive :
    (held.shaped ∧ ¬ held.build.hasBuffer 4 ∧ held.build.hasBuffer 3 ∧ ¬ held.hostHeld 3) ∧
      ((withPacket udpPacket).shaped ∧ (withPacket udpPacket).hostHeld 0 ∧
        (withPacket udpPacket).sniff 0 = .packet .okay 17 20 11 ∧
        ∀ j, j < (withPacket udpPacket).build.nconn → ¬ (withPacket udpPacket).claims j 0 17 20) ∧
      ((withSlot serverSlot (withPacket ackPacket)).shaped ∧ (withSlot serverSlot (withPacket ackPacket)).admits 0 0 6 20 ∧
        ∀ j, j < (withPacket ackPacket).build.nconn → ¬ (withSlot serverSlot (withPacket ackPacket)).claims j 0 6 20) ∧
      (let s := afterListener rcvdSlot ackPacket
       soundCheck s = true ∧ answered (.connAccept 0) s (fun t => t.regs.err == 0 && t.regs.res0 == 3 && t.regs.res1 == 1) = true) ∧
      answered (.connAccept 0) (withSlot udpSlot (withPacket udpPacket))
        (fun t => t.regs.err == 0 && t.regs.res0 == 1) = true :=
  ⟨by decide +kernel, by decide +kernel, ⟨by decide +kernel, by decide +kernel, by decide +kernel⟩, by decide +kernel,
    by decide +kernel⟩

end Sys2Proof.Tests
end

/-! ### The read-only registers of the host window (10_state.md R21, R22, R29, R34)

Each word is a concatenation of fields.  A field is read back by dropping the fields below it (`extractLsb'_append_eq_of_le`) until
it is the lowest or the only one. -/

namespace Sys2Proof.Machine

open BitVec (extractLsb'_append_eq_left extractLsb'_append_eq_right extractLsb'_append_eq_of_le)

/-! #### The words and their fields -/

theorem extractLsb'_append_append_middle {l m n : Nat} (x : BitVec l) (y : BitVec m) (z : BitVec n) :
    (x ++ y ++ z).extractLsb' n m = y := by
  rw [extractLsb'_append_eq_of_le n.le_refl, Nat.sub_self, extractLsb'_append_eq_right]

@[simp] theorem caps0Word_nbuf (g : Config) : (caps0Word g).extractLsb' 0 8 = BitVec.ofNat 8 g.nbuf :=
  extractLsb'_append_eq_right

@[simp] theorem caps0Word_nchan (g : Config) : (caps0Word g).extractLsb' 8 4 = BitVec.ofNat 4 g.nchan :=
  extractLsb'_append_append_middle _ _ _

@[simp] theorem caps0Word_ipv (g : Config) : (caps0Word g).extractLsb' 12 4 = g.ipvCode :=
  (extractLsb'_append_eq_of_le (by decide)).trans (extractLsb'_append_append_middle _ _ _)

@[simp] theorem caps0Word_bufCap (g : Config) : (caps0Word g).extractLsb' 16 16 = BitVec.ofNat 16 g.bufCap :=
  (extractLsb'_append_eq_of_le (by decide)).trans
    ((extractLsb'_append_eq_of_le (by decide)).trans extractLsb'_append_eq_left)

@[simp] theorem caps1Word_fifoCap (g : Config) : (caps1Word g).extractLsb' 0 16 = BitVec.ofNat 16 g.fifoCap :=
  extractLsb'_append_eq_right

@[simp] theorem caps1Word_nconn (g : Config) : (caps1Word g).extractLsb' 16 8 = BitVec.ofNat 8 g.nconn :=
  extractLsb'_append_append_middle _ _ _

@[simp] theorem caps1Word_reserved (g : Config) : (caps1Word g).extractLsb' 24 8 = 0 :=
  (extractLsb'_append_eq_of_le (by decide)).trans extractLsb'_append_eq_left

@[simp] theorem statusWord_err (r : HostRegs) : (statusWord r).extractLsb' 0 8 = r.err :=
  extractLsb'_append_eq_right

@[simp] theorem statusWord_lastop (r : HostRegs) : (statusWord r).extractLsb' 8 8 = r.lastop :=
  extractLsb'_append_append_middle _ _ _

@[simp] theorem statusWord_reserved (r : HostRegs) : (statusWord r).extractLsb' 16 16 = 0 :=
  (extractLsb'_append_eq_of_le (by decide)).trans extractLsb'_append_eq_left

theorem csstatWord_odd (a : Csa) : (csstatWord a).getLsbD 0 = a.odd :=
  BitVec.getLsbD_append.trans (BitVec.getLsbD_ofBool _ _)

@[simp] theorem csstatWord_reservedLow (a : Csa) : (csstatWord a).extractLsb' 1 7 = 0 :=
  extractLsb'_append_append_middle _ _ _

@[simp] theorem csstatWord_pend (a : Csa) : (csstatWord a).extractLsb' 8 8 = a.pend :=
  (extractLsb'_append_eq_of_le (by decide)).trans (extractLsb'_append_append_middle _ _ _)

@[simp] theorem csstatWord_reservedHigh (a : Csa) : (csstatWord a).extractLsb' 16 16 = 0 :=
  (extractLsb'_append_eq_of_le (by decide)).trans
    ((extractLsb'_append_eq_of_le (by decide)).trans extractLsb'_append_eq_left)

/-! #### The parameters fit their fields -/

theorem ipvCode_toNat (g : Config) : g.ipvCode.toNat = if g.ipv = .v4 then 4 else 6 := by
  unfold Config.ipvCode
  cases g.ipv <;> rfl

/-- R13 keeps every parameter within its field of CAPS0 or CAPS1.  FIFO_CAP has no upper bound of its own: it is below MAXPAY_TCP,
which is at most BUF_CAP. -/
theorem params_fit_of_valid {g : Config} (h : g.valid) :
    (g.nbuf < 2 ^ 8 ∧ g.nchan < 2 ^ 4 ∧ g.bufCap < 2 ^ 16) ∧ g.fifoCap < 2 ^ 16 ∧ g.nconn < 2 ^ 8 := by
  obtain ⟨⟨-, hnbuf⟩, ⟨-, hcap⟩, ⟨-, hfifo⟩, ⟨-, hnchan⟩, -, hnconn⟩ := h
  have hmax : g.maxpayTcp ≤ g.bufCap := (Nat.sub_le _ _).trans (Nat.sub_le _ _)
  omega

/-! #### The offsets they are read at -/

section
variable (s : State)

@[simp] theorem State.regRead_caps0 : s.regRead 0x00 = caps0Word s.build := rfl
@[simp] theorem State.regRead_caps1 : s.regRead 0x04 = caps1Word s.build := rfl
@[simp] theorem State.regRead_cmd : s.regRead 0x38 = 0 := rfl
@[simp] theorem State.regRead_status : s.regRead 0x3C = statusWord s.regs := rfl
@[simp] theorem State.regRead_res0 : s.regRead 0x40 = s.regs.res0 := rfl
@[simp] theorem State.regRead_res1 : s.regRead 0x44 = s.regs.res1 := rfl
@[simp] theorem State.regRead_csacc : s.regRead 0x48 = s.csa.acc := rfl
@[simp] theorem State.regRead_csstat : s.regRead 0x4C = csstatWord s.csa := rfl

/-- The reserved space of the window (R21) and every offset outside it: only the wildcard arm of the read is left. -/
theorem State.regRead_of_reserved {o : Nat} (h : 0x50 ≤ o) : s.regRead o = 0 := by
  unfold State.regRead
  split
  case h_20 => rfl
  all_goals omega

end

/-- Settles O7: each word's fields, read at the word's offset.  Only the parameters of CAPS0 and CAPS1 need the build to be valid: a
larger one would lose its high bits in its field. -/
theorem readOnlyRegistersShowTheirFields : Obligations.ReadOnlyRegistersShowTheirFields := by
  intro s hvalid
  obtain ⟨hcaps0, hcaps1⟩ := params_fit_of_valid hvalid
  refine ⟨?caps0, ?caps1, s.regRead_cmd, ?status, s.regRead_res0, s.regRead_res1, s.regRead_csacc, ?csstat,
    fun _ => s.regRead_of_reserved⟩
  case caps0 => simpa [ipvCode_toNat] using hcaps0
  case caps1 => simpa using hcaps1
  case status => exact ⟨statusWord_err _, statusWord_lastop _, statusWord_reserved _⟩
  case csstat => exact ⟨csstatWord_odd _, csstatWord_reservedLow _, csstatWord_pend _, csstatWord_reservedHigh _⟩

end Sys2Proof.Machine

/-! ### The command word (30_encoding.md R90 to R96)

A word is its three fields, and a mask acts on each of them.  So `w &&& i.usedBits = encode i` says of each field what the decoder
reads, and `decode_eq_instr_iff` describes the whole decoder with it: a word decodes to the command whose own word has the same used
bits. -/

namespace Sys2Proof

open BitVec (allOnes extractLsb'_append_extractLsb' extractLsb'_append_eq_left extractLsb'_append_eq_right
  extractLsb'_append_extractLsb'_eq_extractLsb')

/-! #### The three fields of a word -/

theorem opField_append_aField_append_bField (w : Word) : opField w ++ aField w ++ bField w = w := by
  have hhigh : opField w ++ aField w = w.extractLsb' 16 16 := extractLsb'_append_extractLsb'_eq_extractLsb' rfl
  rw [hhigh]
  exact extractLsb'_append_extractLsb'

theorem eq_append_iff_fields {w : Word} {op a : Byte} {b : Half} :
    w = op ++ a ++ b ↔ opField w = op ∧ aField w = a ∧ bField w = b := by
  constructor
  · rintro rfl
    exact ⟨opField_append .., aField_append .., bField_append ..⟩
  · rintro ⟨rfl, rfl, rfl⟩
    exact (opField_append_aField_append_bField w).symm

theorem opField_toNat (w : Word) : (opField w).toNat = w.toNat / 2 ^ 24 := by
  simp only [opField, BitVec.extractLsb'_toNat, Nat.shiftRight_eq_div_pow]
  omega

@[simp] theorem opField_and (w m : Word) : opField (w &&& m) = opField w &&& opField m := BitVec.extractLsb'_and
@[simp] theorem aField_and (w m : Word) : aField (w &&& m) = aField w &&& aField m := BitVec.extractLsb'_and
@[simp] theorem bField_and (w m : Word) : bField (w &&& m) = bField w &&& bField m := BitVec.extractLsb'_and

@[simp] theorem opField_ofNat (n : Nat) : opField (BitVec.ofNat 32 n) = BitVec.ofNat 8 (n / 2 ^ 24) := by
  apply BitVec.eq_of_toNat_eq
  simp only [opField_toNat, BitVec.toNat_ofNat]
  omega

@[simp] theorem aField_ofNat (n : Nat) : aField (BitVec.ofNat 32 n) = BitVec.ofNat 8 (n / 2 ^ 16) := by
  apply BitVec.eq_of_toNat_eq
  simp only [aField, BitVec.extractLsb'_toNat, BitVec.toNat_ofNat, Nat.shiftRight_eq_div_pow]
  omega

@[simp] theorem bField_ofNat (n : Nat) : bField (BitVec.ofNat 32 n) = BitVec.ofNat 16 n := by
  apply BitVec.eq_of_toNat_eq
  simp only [bField, BitVec.extractLsb'_toNat, BitVec.toNat_ofNat, Nat.shiftRight_zero]
  omega

/-! #### The masks of R92 and R94: a whole field, or the low bits of B -/

@[simp] theorem and_byteMask (x : Byte) : x &&& 0xFF#8 = x := BitVec.and_allOnes
@[simp] theorem and_halfMask (x : Half) : x &&& 0xFFFF#16 = x := BitVec.and_allOnes

theorem eq_append_iff_extractLsb' {m n : Nat} {x : BitVec (m + n)} {hi : BitVec m} {lo : BitVec n} :
    x = hi ++ lo ↔ x.extractLsb' n m = hi ∧ x.extractLsb' 0 n = lo := by
  constructor
  · rintro rfl
    exact ⟨extractLsb'_append_eq_left, extractLsb'_append_eq_right⟩
  · rintro ⟨rfl, rfl⟩
    exact extractLsb'_append_extractLsb'.symm

theorem and_lowMask_eq_iff {m n : Nat} {x : BitVec (m + n)} {v : BitVec n} :
    x &&& (0#m ++ allOnes n) = 0#m ++ v ↔ x.extractLsb' 0 n = v := by
  rw [eq_append_iff_extractLsb', BitVec.extractLsb'_and, BitVec.extractLsb'_and, extractLsb'_append_eq_left,
    extractLsb'_append_eq_right, BitVec.and_zero, BitVec.and_allOnes]
  exact and_iff_right rfl

theorem extractLsb'_one_eq_ofBool_iff {n k : Nat} {x : BitVec n} {v : Bool} :
    x.extractLsb' k 1 = BitVec.ofBool v ↔ x.getLsbD k = v := by
  have hbit : x.extractLsb' k 1 = BitVec.ofBool (x.getLsbD k) := by
    ext j hj
    obtain rfl : j = 0 := by omega
    simp [BitVec.getElem_extractLsb']
  rw [hbit, BitVec.ofBool_eq_iff_eq]

theorem extractLsb'_bField {n : Nat} (w : Word) (h : n ≤ 16) : (bField w).extractLsb' 0 n = w.extractLsb' 0 n :=
  BitVec.extractLsb'_extractLsb'_of_le (by omega)

@[simp] theorem bField_and_flagMask {w : Word} {v : Bool} :
    bField w &&& 0x01#16 = 0#15 ++ BitVec.ofBool v ↔ w.getLsbD 0 = v := by
  rw [← extractLsb'_one_eq_ofBool_iff, ← extractLsb'_bField w (by decide)]
  exact and_lowMask_eq_iff (m := 15) (n := 1)

@[simp] theorem bField_and_countMask {w : Word} {n : BitVec 3} :
    bField w &&& 0x07#16 = 0#13 ++ n ↔ w.extractLsb' 0 3 = n := by
  rw [← extractLsb'_bField w (by decide)]
  exact and_lowMask_eq_iff (m := 13) (n := 3)

@[simp] theorem bField_and_channelMask {w : Word} {v : BitVec 4} :
    bField w &&& 0x0F#16 = 0#12 ++ v ↔ w.extractLsb' 0 4 = v := by
  rw [← extractLsb'_bField w (by decide)]
  exact and_lowMask_eq_iff (m := 12) (n := 4)

@[simp] theorem bField_and_lowByteMask {w : Word} {b : Byte} : bField w &&& 0xFF#16 = 0#8 ++ b ↔ bLow w = b := by
  rw [bLow_eq]
  exact and_lowMask_eq_iff (m := 8) (n := 8)

/-- B of CHAIN_PUSH: the handle in the low byte, URGENT the low bit of the byte above it. -/
@[simp] theorem bField_and_urgentMask {w : Word} {b : Byte} {urgent : Bool} :
    bField w &&& 0x1FF#16 = 0#7 ++ BitVec.ofBool urgent ++ b ↔ bLow w = b ∧ w.getLsbD 8 = urgent := by
  calc bField w &&& 0x1FF#16 = 0#7 ++ BitVec.ofBool urgent ++ b
    _ ↔ (bField w).extractLsb' 8 8 &&& 0x01#8 = 0#7 ++ BitVec.ofBool urgent ∧ bLow w &&& 0xFF#8 = b := by
      rw [eq_append_iff_extractLsb' (m := 8) (n := 8), BitVec.extractLsb'_and, BitVec.extractLsb'_and, ← bLow_eq]
      rfl
    _ ↔ w.getLsbD 8 = urgent ∧ bLow w = b := by
      have hflag : ((bField w).extractLsb' 8 8).getLsbD 0 = w.getLsbD 8 := by simp [bField]
      rw [and_byteMask, ← hflag, ← extractLsb'_one_eq_ofBool_iff, ← and_lowMask_eq_iff (m := 7)]
      rfl
    _ ↔ bLow w = b ∧ w.getLsbD 8 = urgent := and_comm

/-! #### The commands a word decodes to -/

/-- No format ignores OP (R92). -/
theorem opField_usedBits (i : Instr) : opField i.usedBits = 0xFF#8 := by
  cases i <;> simp [Instr.usedBits]

theorem and_usedBits_eq_encode_iff {w : Word} {i : Instr} :
    w &&& i.usedBits = encode i ↔ opField w = i.opcode ∧ aField w &&& aField i.usedBits = i.aOperand ∧
      bField w &&& bField i.usedBits = i.bOperand := by
  rw [encode, eq_append_iff_fields, opField_and, aField_and, bField_and, opField_usedBits, and_byteMask]

theorem opField_of_decode_eq_instr {w : Word} {i : Instr} (h : decode w = .instr i) : opField w = i.opcode := by
  unfold decode at h
  split at h <;> cases h <;> assumption

/-- With OP fixed to the opcode of `i` one arm of the decoder is left, and it reads the operands of `i` from the used bits of A and B:
each is a whole field or one of the masks above. -/
theorem decode_eq_instr_iff_operands {w : Word} {i : Instr} (hop : opField w = i.opcode) :
    decode w = .instr i ↔
      aField w &&& aField i.usedBits = i.aOperand ∧ bField w &&& bField i.usedBits = i.bOperand := by
  cases i
  all_goals
    simp only [Instr.opcode, BitVec.ofNat_eq_ofNat] at hop
    simp [decode, hop, Instr.aOperand, Instr.bOperand, Instr.usedBits]

/-- R92, R94: the used bits alone decide which command a word is. -/
theorem decode_eq_instr_iff {w : Word} {i : Instr} : decode w = .instr i ↔ w &&& i.usedBits = encode i := by
  rw [and_usedBits_eq_encode_iff]
  constructor
  · intro h
    have hop := opField_of_decode_eq_instr h
    exact ⟨hop, (decode_eq_instr_iff_operands hop).mp h⟩
  · rintro ⟨hop, hoperands⟩
    exact (decode_eq_instr_iff_operands hop).mpr hoperands

/-- Settles O2: a word and every word that agrees with it on the used bits have the used bits of the command's own word. -/
theorem ignoredBitsHaveNoEffect : Obligations.IgnoredBitsHaveNoEffect := by
  intro w w' i h
  have hused := decode_eq_instr_iff.mp h
  exact ⟨hused.symm, fun hagree => decode_eq_instr_iff.mpr (hagree.trans hused)⟩

/-! #### The words that are no command -/

/-- The opcodes that R96 lists. -/
def UnassignedOpcode (op : Nat) : Prop :=
  op = 0x0E ∨ op = 0x0F ∨ (0x18 ≤ op ∧ op ≤ 0x1F) ∨ (0x26 ≤ op ∧ op ≤ 0x2F) ∨
    (0x33 ≤ op ∧ op ≤ 0x3F) ∨ (0x43 ≤ op ∧ op ≤ 0x4F) ∨ (0x61 ≤ op ∧ op ≤ 0x7E) ∨ 0x80 ≤ op

theorem not_unassignedOpcode_opcode (i : Instr) : ¬ UnassignedOpcode i.opcode.toNat := by
  unfold UnassignedOpcode
  cases i <;> simp [Instr.opcode]

/-- Only the last arm of the decoder rejects, and it is reached by the opcodes that no arm before it has. -/
theorem decode_eq_reject {w : Word} {r : DecodeReject} (h : decode w = .reject r) :
    UnassignedOpcode (opField w).toNat ∧ r = .illegalOpcode (opField w) := by
  unfold decode at h
  split at h
  case h_53 =>
    cases h
    refine ⟨?_, rfl⟩
    simp only [imp_false, ← BitVec.toNat_inj, BitVec.toNat_ofNat, Nat.reducePow, Nat.reduceMod] at *
    have hlt := (opField w).isLt
    unfold UnassignedOpcode
    omega
  all_goals cases h

end Sys2Proof

namespace Sys2Proof.Machine

theorem step_of_cmdWrite {s : State} {w : Word} {rest : List HostAccess} (hvalid : s.build.valid)
    (hinput : s.input = .write cmdOffset 32 w :: rest) : step s = runCommand w { s with input := rest } := by
  rw [step, if_pos hvalid, hinput]
  rfl

theorem runCommand_of_reject {w : Word} {op : Byte} (h : decode w = .reject (.illegalOpcode op)) (s : State) :
    runCommand w s = .next (s.errored op 1) := by
  rw [runCommand, h]
  rfl

/-- Settles O3: the decoder rejects a word with one of R96's opcodes and no other, since every command has an assigned one. -/
theorem unassignedOpcodesAreIllegal : Obligations.UnassignedOpcodesAreIllegal := by
  intro w s rest hvalid hinput
  change (UnassignedOpcode (w.toNat / 2 ^ 24) →
      step s = .next (({ s with input := rest } : State).errored (BitVec.ofNat 8 (w.toNat / 2 ^ 24)) 1)) ∧
    (¬ UnassignedOpcode (w.toNat / 2 ^ 24) → ∃ i, decode w = .instr i ∧ i.opcode.toNat = w.toNat / 2 ^ 24)
  rw [← opField_toNat, BitVec.ofNat_toNat, BitVec.setWidth_eq]
  cases hd : decode w with
  | instr i =>
    rw [opField_of_decode_eq_instr hd]
    exact ⟨fun h => absurd h (not_unassignedOpcode_opcode i), fun _ => ⟨i, rfl, rfl⟩⟩
  | reject r =>
    obtain ⟨hunassigned, rfl⟩ := decode_eq_reject hd
    refine ⟨fun _ => ?_, fun h => absurd hunassigned h⟩
    rw [step_of_cmdWrite hvalid hinput, runCommand_of_reject hd]

end Sys2Proof.Machine

/-! ### Chains as lists (10_state.md R32, R33)

`holdsChain` says which list a chain holds by equations; `chainList` follows NEXT.  In a sound state the two agree
(`chainList_eq_of_holdsChain`), so an operation's effect on a chain is proved as a `holdsChain` of the new list. -/

namespace Sys2Proof.Machine

/-! #### Following links -/

/-- Following `f` from the head of `l` visits `l` in order and then reaches `e`. -/
def LinkedTo (f : Handle → Handle) (l : List Handle) (e : Handle) : Prop := l.map f = (l ++ [e]).tail

section
variable {f g : Handle → Handle} {l m : List Handle} {x e e' : Handle}

@[simp] theorem linkedTo_nil : LinkedTo f [] e := rfl

@[simp] theorem linkedTo_cons : LinkedTo f (x :: l) e ↔ f x = l.headD e ∧ LinkedTo f l e := by
  cases l <;> simp [LinkedTo]

theorem linkedTo_append : LinkedTo f (l ++ m) e ↔ LinkedTo f l (m.headD e) ∧ LinkedTo f m e := by
  induction l with
  | nil => simp
  | cons y l ih => simp [ih, and_assoc]

theorem LinkedTo.congr (h : LinkedTo f l e) (hfg : ∀ y ∈ l, g y = f y) : LinkedTo g l e :=
  (List.map_congr_left hfg).trans h

/-- Changing the link of the last element changes only where the list leads. -/
theorem LinkedTo.relink (h : LinkedTo f l e) (hl : l.Nodup) (hfg : ∀ y ∈ l, y ≠ l.getLastD NONE → g y = f y)
    (hlast : l ≠ [] → g (l.getLastD NONE) = e') : LinkedTo g l e' := by
  rcases l.eq_nil_or_concat with rfl | ⟨k, y, rfl⟩
  · exact linkedTo_nil
  · simp only [List.concat_eq_append, linkedTo_append, linkedTo_cons, List.getLastD_concat, List.headD_cons,
      List.headD_nil, linkedTo_nil, and_true] at h hfg hlast ⊢
    obtain ⟨hlink, -⟩ := h
    have hy : y ∉ k := fun hk => List.disjoint_of_nodup_append (List.concat_eq_append ▸ hl) hk List.mem_cons_self
    exact ⟨hlink.congr fun z hz => hfg z (by simp [hz]) (ne_of_mem_of_not_mem hz hy), hlast (by simp)⟩

end

/-! #### The ends of a list -/

theorem headD_append (l m : List Handle) (e : Handle) : (l ++ m).headD e = l.headD (m.headD e) := by
  simp only [List.headD_eq_head?_getD, List.head?_append, Option.getD_or]

theorem getLastD_append (l m : List Handle) (e : Handle) : (l ++ m).getLastD e = m.getLastD (l.getLastD e) := by
  simp only [List.getLastD_eq_getLast?, List.getLast?_append, Option.getD_or]

theorem getLastD_mem {l : List Handle} (h : l.getLastD NONE ≠ NONE) : l.getLastD NONE ∈ l :=
  (List.mem_cons.1 List.getLastD_mem_cons).resolve_left h

theorem getLastD_eq_none_iff {l : List Handle} (h : NONE ∉ l) : l.getLastD NONE = NONE ↔ l = [] := by
  constructor
  · intro hlast
    rcases l.eq_nil_or_concat with hl | ⟨k, y, rfl⟩
    · exact hl
    · rw [List.concat_eq_append, List.getLastD_concat] at hlast
      exact absurd (by simp [hlast]) h
  · rintro rfl
    rfl

theorem getLastD_eq_ite {l : List Handle} (h : NONE ∉ l) (e : Handle) :
    l.getLastD e = if l.getLastD NONE = NONE then e else l.getLastD NONE := by
  simp only [getLastD_eq_none_iff h]
  rcases l.eq_nil_or_concat with rfl | ⟨k, y, rfl⟩ <;> simp

/-- The last of a list without repetition that loses an element: the one before it, if the element was the last. -/
theorem getLastD_removed {l m : List Handle} {b : Handle} (h : (l ++ b :: m).Nodup) :
    (l ++ m).getLastD NONE = if (l ++ b :: m).getLastD NONE = b then l.getLastD NONE else (l ++ b :: m).getLastD NONE := by
  rw [getLastD_append, getLastD_append, List.getLastD_cons]
  rcases m.eq_nil_or_concat with rfl | ⟨k, y, rfl⟩
  · exact (if_pos rfl).symm
  · have hyb : y ≠ b := by
      rintro rfl
      exact (List.nodup_cons.1 h.of_append_right).1 (by simp)
    rw [List.concat_eq_append, List.getLastD_concat, List.getLastD_concat, if_neg hyb]

/-! #### The handles of a pool -/

theorem ne_none_of_hasBuffer {g : Config} {b : Handle} (hg : g.nbuf ≤ 255) (h : g.hasBuffer b) : b ≠ NONE := by
  rintro rfl
  exact absurd (show 255 < g.nbuf from h) (Nat.not_lt.2 hg)

/-- A list of handles of the pool has at most NBUF elements if none stands in it twice. -/
theorem length_le_of_hasBuffer {g : Config} {l : List Handle} (hl : l.Nodup) (h : ∀ b ∈ l, g.hasBuffer b) :
    l.length ≤ g.nbuf := by
  have hnodup : (l.map BitVec.toNat).Nodup := hl.map fun _ _ => BitVec.eq_of_toNat_eq
  have hsub : l.map BitVec.toNat ⊆ List.range g.nbuf := by
    intro n hn
    obtain ⟨b, hb, rfl⟩ := List.mem_map.1 hn
    exact List.mem_range.2 (h b hb)
  simpa using (hnodup.subperm hsub).length_le

/-! #### The two walks: NEXT from the head, and the search of R113 -/

section
variable {s t : State}

theorem State.walk_eq_of_linkedTo {l : List Handle} (hlink : LinkedTo (fun b => (s.buf b).next) l NONE) (hnone : NONE ∉ l) :
    ∀ {fuel : Nat}, l.length ≤ fuel → s.walk fuel (l.headD NONE) = l := by
  induction l with
  | nil => intro fuel _; cases fuel <;> simp [State.walk]
  | cons x l ih =>
    intro fuel hfuel
    obtain ⟨hnext, hlink⟩ := linkedTo_cons.1 hlink
    obtain ⟨hx, hnone⟩ := not_or.1 (mt List.mem_cons.2 hnone)
    cases fuel with
    | zero => simp at hfuel
    | succ fuel =>
      have hrest := ih hlink hnone (Nat.le_of_succ_le_succ hfuel)
      rw [List.headD_cons, State.walk, if_neg (Ne.symm hx), hnext, hrest]

theorem State.walk_congr (hbufs : t.bufs = s.bufs) (fuel : Nat) (h : Handle) : t.walk fuel h = s.walk fuel h := by
  induction fuel generalizing h with
  | zero => rfl
  | succ fuel ih => simp only [State.walk, ih, State.buf_congr hbufs]

theorem State.chainList_congr (hbuild : t.build = s.build) (hbufs : t.bufs = s.bufs) (hchains : t.chains = s.chains)
    (c : Nat) : t.chainList c = s.chainList c := by
  rw [State.chainList, State.chainList, hbuild, State.chain_congr hchains, State.walk_congr hbufs]

/-- The search of R113 for `b` stops at the last of the handles `p` before it. -/
theorem State.findPrev_eq_getLastD {b : Handle} {p : List Handle} (hlink : LinkedTo (fun b => (s.buf b).next) p b)
    (hb : b ∉ p) (hnone : NONE ∉ p) :
    ∀ {fuel : Nat} {prev : Handle}, p.length < fuel → s.findPrev b fuel prev (p.headD b) = some (p.getLastD prev) := by
  induction p with
  | nil =>
    intro fuel prev hfuel
    cases fuel with
    | zero => simp at hfuel
    | succ fuel => simp [State.findPrev]
  | cons x p ih =>
    intro fuel prev hfuel
    obtain ⟨hnext, hlink⟩ := linkedTo_cons.1 hlink
    obtain ⟨hxb, hb⟩ := not_or.1 (mt List.mem_cons.2 hb)
    obtain ⟨hx, hnone⟩ := not_or.1 (mt List.mem_cons.2 hnone)
    cases fuel with
    | zero => simp at hfuel
    | succ fuel =>
      have hrest := ih hlink hb hnone (prev := x) (Nat.lt_of_succ_lt_succ hfuel)
      rw [List.headD_cons, State.findPrev, if_neg (Ne.symm hxb), if_neg (Ne.symm hx), hnext, hrest, List.getLastD_cons]

/-! #### What a chain holds -/

/-- The definition's conjuncts under names, the links as `LinkedTo`. -/
structure HoldsChain (s : State) (c : Nat) (l : List Handle) : Prop where
  head : (s.chain c).head = l.headD NONE
  tail : (s.chain c).tail = l.getLastD NONE
  count : (s.chain c).count.toNat = l.length
  links : LinkedTo (fun b => (s.buf b).next) l NONE
  nodup : l.Nodup
  hasBuffer : ∀ b ∈ l, s.build.hasBuffer b
  mem_iff : ∀ b : Handle, s.build.hasBuffer b → (b ∈ l ↔ (s.buf b).loc = .chain c)

theorem holdsChain_iff {c : Nat} {l : List Handle} : s.holdsChain c l ↔ HoldsChain s c l :=
  ⟨fun ⟨h1, h2, h3, h4, h5, h6, h7⟩ => ⟨h1, h2, h3, h4, h5, h6, h7⟩,
    fun ⟨h1, h2, h3, h4, h5, h6, h7⟩ => ⟨h1, h2, h3, h4, h5, h6, h7⟩⟩

variable {c : Nat} {l : List Handle}

theorem HoldsChain.none_notMem (h : HoldsChain s c l) (hn : s.build.nbuf ≤ 255) : NONE ∉ l :=
  fun hmem => ne_none_of_hasBuffer hn (h.hasBuffer _ hmem) rfl

theorem HoldsChain.length_le (h : HoldsChain s c l) : l.length ≤ s.build.nbuf :=
  length_le_of_hasBuffer h.nodup h.hasBuffer

/-- A chain holds one list only: the one its registers lead through. -/
theorem HoldsChain.chainList_eq (h : HoldsChain s c l) (hn : s.build.nbuf ≤ 255) : s.chainList c = l := by
  rw [State.chainList, h.head, State.walk_eq_of_linkedTo h.links (h.none_notMem hn) h.length_le]

theorem HoldsChain.loc_eq (h : HoldsChain s c l) {b : Handle} (hb : b ∈ l) : (s.buf b).loc = .chain c :=
  (h.mem_iff b (h.hasBuffer b hb)).1 hb

theorem HoldsChain.notMem (h : HoldsChain s c l) {b : Handle} (hb : (s.buf b).loc ≠ .chain c) : b ∉ l :=
  fun hmem => hb (h.loc_eq hmem)

/-- The last of a chain's buffers, where it has one. -/
theorem HoldsChain.tail_mem (h : HoldsChain s c l) (ht : (s.chain c).tail ≠ NONE) : (s.chain c).tail ∈ l := by
  rw [h.tail] at ht ⊢
  exact getLastD_mem ht

theorem HoldsChain.tail_eq_none_iff (h : HoldsChain s c l) (hn : s.build.nbuf ≤ 255) : (s.chain c).tail = NONE ↔ l = [] := by
  rw [h.tail, getLastD_eq_none_iff (h.none_notMem hn)]

/-- A chain holds the same list in any two states that agree on its registers and on its buffers. -/
theorem HoldsChain.congr (h : HoldsChain s c l) (hbuild : t.build = s.build) (hchain : t.chain c = s.chain c)
    (hnext : ∀ b ∈ l, (t.buf b).next = (s.buf b).next)
    (hloc : ∀ b, (t.buf b).loc = .chain c ↔ (s.buf b).loc = .chain c) : HoldsChain t c l where
  head := hchain ▸ h.head
  tail := hchain ▸ h.tail
  count := hchain ▸ h.count
  links := h.links.congr hnext
  nodup := h.nodup
  hasBuffer := hbuild ▸ h.hasBuffer
  mem_iff b hb := (h.mem_iff b (hbuild ▸ hb)).trans (hloc b).symm

end

end Sys2Proof.Machine

/-! ### The chain operations (40_pool.md R110 to R115)

Each operation edits one chain and the record of one buffer (`ChainEdit`), and says there which list the chain then holds.  Everything
else that a command's statement asks for follows from that once: the other chains, the frames, and that the state stays sound. -/

namespace Sys2Proof.Machine

/-! #### Records and registers only -/

/-- `t` is `s` with other buffer records and other chain registers. -/
def PoolEdit (s t : State) : Prop :=
  ∃ bufs chains, t = { s with bufs := bufs, chains := chains } ∧ bufs.length = s.bufs.length ∧ chains.length = s.chains.length

section
variable {s t u : State}

theorem PoolEdit.refl (s : State) : PoolEdit s s := ⟨s.bufs, s.chains, rfl, rfl, rfl⟩

theorem PoolEdit.trans (h : PoolEdit s t) (h' : PoolEdit t u) : PoolEdit s u := by
  obtain ⟨bufs, chains, rfl, hb, hc⟩ := h
  obtain ⟨bufs', chains', rfl, hb', hc'⟩ := h'
  exact ⟨bufs', chains', rfl, hb'.trans hb, hc'.trans hc⟩

theorem PoolEdit.setBuf (h : PoolEdit s t) (b : Handle) (f : Buffer → Buffer) : PoolEdit s (t.setBuf b f) :=
  h.trans ⟨_, t.chains, rfl, t.setBuf_bufs_length b f, rfl⟩

theorem PoolEdit.setChain (h : PoolEdit s t) (c : Nat) (f : Chain → Chain) : PoolEdit s (t.setChain c f) :=
  h.trans ⟨t.bufs, _, rfl, rfl, t.setChain_chains_length c f⟩

theorem PoolEdit.onlyPool (h : PoolEdit s t) : OnlyPool s t := by
  obtain ⟨bufs, chains, rfl, -, -⟩ := h
  exact ⟨⟨rfl, rfl, rfl, rfl⟩, fun _ _ => rfl, rfl, rfl, rfl⟩

theorem PoolEdit.build (h : PoolEdit s t) : t.build = s.build := by
  obtain ⟨bufs, chains, rfl, -, -⟩ := h
  rfl

theorem PoolEdit.slf (h : PoolEdit s t) : t.slf = s.slf := by
  obtain ⟨bufs, chains, rfl, -, -⟩ := h
  rfl

theorem PoolEdit.conns (h : PoolEdit s t) : t.conns = s.conns := by
  obtain ⟨bufs, chains, rfl, -, -⟩ := h
  rfl

theorem PoolEdit.regs (h : PoolEdit s t) : t.regs = s.regs := by
  obtain ⟨bufs, chains, rfl, -, -⟩ := h
  rfl

theorem PoolEdit.mem (h : PoolEdit s t) : t.mem = s.mem := by
  obtain ⟨bufs, chains, rfl, -, -⟩ := h
  rfl

theorem PoolEdit.bufs_length (h : PoolEdit s t) : t.bufs.length = s.bufs.length := by
  obtain ⟨bufs, chains, rfl, hb, -⟩ := h
  exact hb

theorem PoolEdit.chains_length (h : PoolEdit s t) : t.chains.length = s.chains.length := by
  obtain ⟨bufs, chains, rfl, -, hc⟩ := h
  exact hc

end

theorem State.pushHead_poolEdit (s : State) (c : Nat) (b : Handle) : PoolEdit s (s.pushHead c b) :=
  (((PoolEdit.refl s).setBuf _ _).setChain _ _).setBuf _ _

theorem State.pushTail_poolEdit (s : State) (c : Nat) (b : Handle) : PoolEdit s (s.pushTail c b) := by
  have hnext : PoolEdit s (s.setNext b NONE) := (PoolEdit.refl s).setBuf _ _
  unfold State.pushTail
  dsimp only
  split
  · exact ((hnext.setChain _ _).setChain _ _).setBuf _ _
  · exact ((hnext.setBuf _ _).setChain _ _).setBuf _ _

/-! #### Buffers and registers after `PushTail` and after unlinking -/

section
variable (s : State)

theorem State.pushTail_buf_same (c : Nat) {b : Handle} (hb : b.toNat < s.bufs.length) (ht : b ≠ (s.chain c).tail) :
    (s.pushTail c b).buf b = { s.buf b with next := NONE, loc := .chain c } := by
  have hchain : (s.setNext b NONE).chain c = s.chain c := State.chain_congr (State.setNext_chains _ _ _) c
  have hnext : (s.setNext b NONE).buf b = { s.buf b with next := NONE } := State.buf_setBuf_same _ _ _ hb
  simp only [State.pushTail, hchain]
  rw [State.setLoc, State.buf_setBuf_same, State.buf_congr (State.setChain_bufs _ _ _)]
  · split
    · rw [State.buf_congr (State.setChain_bufs _ _ _), hnext]
    · rw [State.setNext, State.buf_setBuf_ne _ _ ht, hnext]
  · split <;> simpa [State.setNext] using hb

/-- `PushTail` changes no buffer but the pushed one and, where there is one, the old tail. -/
theorem State.pushTail_buf_of_ne (c : Nat) {b x : Handle} (h : x ≠ b) (ht : (s.chain c).tail = NONE ∨ x ≠ (s.chain c).tail) :
    (s.pushTail c b).buf x = s.buf x := by
  rcases ht with hnone | hx
  · have hchain : (s.setNext b NONE).chain c = s.chain c := State.chain_congr (State.setNext_chains _ _ _) c
    simp only [State.pushTail, hchain, if_pos hnone]
    rw [State.setLoc, State.buf_setBuf_ne _ _ h, State.buf_congr (State.setChain_bufs _ _ _),
      State.buf_congr (State.setChain_bufs _ _ _), State.setNext, State.buf_setBuf_ne _ _ h]
  · exact s.pushTail_buf_ne c h hx

theorem State.pushTail_buf_tail (c : Nat) {b : Handle} (hlt : (s.chain c).tail.toNat < s.bufs.length)
    (hnone : (s.chain c).tail ≠ NONE) (hb : (s.chain c).tail ≠ b) :
    (s.pushTail c b).buf (s.chain c).tail = { s.buf (s.chain c).tail with next := b } := by
  have hchain : (s.setNext b NONE).chain c = s.chain c := State.chain_congr (State.setNext_chains _ _ _) c
  simp only [State.pushTail, hchain, if_neg hnone]
  rw [State.setLoc, State.buf_setBuf_ne _ _ hb, State.buf_congr (State.setChain_bufs _ _ _), State.setNext,
    State.buf_setBuf_same _ _ _ (by simpa [State.setNext] using hlt), State.setNext, State.buf_setBuf_ne _ _ hb]

/-- The state after R113 has found the predecessor of `b` on chain `c`, NONE for the head. -/
def State.unlink (s : State) (c : Nat) (prev b : Handle) : State :=
  (((if prev = NONE then s.setChain c fun x => { x with head := (s.buf b).next } else s.setNext prev (s.buf b).next).setChain c
    fun x => { x with tail := if x.tail = b then prev else x.tail, count := x.count - 1 }).setNext b NONE).setLoc b .off

theorem State.remove_eq_unlink {c : Nat} {b prev : Handle}
    (h : s.findPrev b s.build.nbuf NONE (s.chain c).head = some prev) : s.remove c b = some (s.unlink c prev b) := by
  rcases s.remove_cases c b with ⟨hnone, -⟩ | ⟨prev', hprev, hremove⟩
  · rw [hnone] at h; cases h
  · rw [hprev] at h; cases h; exact hremove

theorem State.unlink_poolEdit (c : Nat) (prev b : Handle) : PoolEdit s (s.unlink c prev b) := by
  unfold State.unlink
  split
  · exact ((((PoolEdit.refl s).setChain _ _).setChain _ _).setBuf _ _).setBuf _ _
  · exact ((((PoolEdit.refl s).setBuf _ _).setChain _ _).setBuf _ _).setBuf _ _

theorem State.unlink_chain_ne {c d : Nat} (prev b : Handle) (h : d ≠ c) : (s.unlink c prev b).chain d = s.chain d := by
  unfold State.unlink
  rw [State.chain_congr (State.setLoc_chains _ _ _), State.chain_congr (State.setNext_chains _ _ _),
    State.chain_setChain_ne _ _ h]
  split
  · rw [State.chain_setChain_ne _ _ h]
  · rw [State.chain_congr (State.setNext_chains _ _ _)]

theorem State.unlink_chain_same {c : Nat} (prev b : Handle) (h : c < s.chains.length) :
    (s.unlink c prev b).chain c =
      { head := if prev = NONE then (s.buf b).next else (s.chain c).head,
        tail := if (s.chain c).tail = b then prev else (s.chain c).tail, count := (s.chain c).count - 1 } := by
  unfold State.unlink
  rw [State.chain_congr (State.setLoc_chains _ _ _), State.chain_congr (State.setNext_chains _ _ _)]
  split
  · rw [State.chain_setChain_same _ _ _ (by simpa using h), State.chain_setChain_same _ _ _ h]
  · rw [State.chain_setChain_same _ _ _ (by simpa using h), State.chain_congr (State.setNext_chains _ _ _)]

/-- Unlinking a buffer changes no other but its predecessor. -/
theorem State.unlink_buf_ne (c : Nat) {prev b x : Handle} (h : x ≠ b) (hprev : prev = NONE ∨ x ≠ prev) :
    (s.unlink c prev b).buf x = s.buf x := by
  unfold State.unlink
  rw [State.setLoc, State.buf_setBuf_ne _ _ h, State.setNext, State.buf_setBuf_ne _ _ h,
    State.buf_congr (State.setChain_bufs _ _ _)]
  split
  · rw [State.buf_congr (State.setChain_bufs _ _ _)]
  · rw [State.setNext, State.buf_setBuf_ne _ _ (hprev.resolve_left ‹_›)]

theorem State.unlink_buf_prev (c : Nat) {prev b : Handle} (h : prev ≠ b) (hnone : prev ≠ NONE)
    (hlt : prev.toNat < s.bufs.length) : (s.unlink c prev b).buf prev = { s.buf prev with next := (s.buf b).next } := by
  unfold State.unlink
  rw [State.setLoc, State.buf_setBuf_ne _ _ h, State.setNext, State.buf_setBuf_ne _ _ h,
    State.buf_congr (State.setChain_bufs _ _ _), if_neg hnone, State.setNext, State.buf_setBuf_same _ _ _ hlt]

theorem State.unlink_buf_same (c : Nat) {prev b : Handle} (h : b ≠ prev) (hb : b.toNat < s.bufs.length) :
    (s.unlink c prev b).buf b = { s.buf b with next := NONE, loc := .off } := by
  unfold State.unlink
  rw [State.setLoc, State.buf_setBuf_same, State.setNext, State.buf_setBuf_same, State.buf_congr (State.setChain_bufs _ _ _)]
  · split
    · rw [State.buf_congr (State.setChain_bufs _ _ _)]
    · rw [State.setNext, State.buf_setBuf_ne _ _ h]
  all_goals split <;> simpa [State.setNext] using hb

/-- An update of a chain counts by what it does to the registers the chain has. -/
theorem State.setChain_congr {c : Nat} {f g : Chain → Chain} (h : f (s.chain c) = g (s.chain c)) :
    s.setChain c f = s.setChain c g := by
  have hmodify : s.chains.modify c f = s.chains.modify c g := by
    apply List.ext_getElem?
    intro i
    rw [List.getElem?_modify, List.getElem?_modify]
    by_cases hi : c = i
    · subst hi
      cases hx : s.chains[c]? with
      | none => rfl
      | some x => simpa [State.chain, List.getD, hx] using h
    · simp [hi]
  simp only [State.setChain, hmodify]

/-- R112 is R113 for the head, where the head is the tail exactly when nothing follows it. -/
theorem State.popHead_eq_unlink {c : Nat} (h : (s.chain c).head ≠ NONE)
    (htail : (s.buf (s.chain c).head).next = NONE ↔ (s.chain c).tail = (s.chain c).head) :
    s.popHead c = ((s.chain c).head, s.unlink c NONE (s.chain c).head) := by
  rcases s.popHead_cases c with ⟨hnone, -⟩ | ⟨-, hpop⟩
  · exact absurd hnone h
  · rw [hpop, State.unlink, if_pos rfl]
    congr 3
    calc s.setChain c _ = s.setChain c ((fun x => { x with
            tail := if x.tail = (s.chain c).head then NONE else x.tail, count := x.count - 1 }) ∘
              fun x => { x with head := (s.buf (s.chain c).head).next }) :=
          s.setChain_congr (by simp [htail])
      _ = _ := by simp [State.setChain, List.modify_modify_eq]

end

end Sys2Proof.Machine

/-! ### One chain edited -/

namespace Sys2Proof.Machine

/-- R13's bound on NBUF, the arrays of R30 and R32, and items 1 and 2 of R33: what the chain operations rest on. -/
structure ChainsSound (s : State) : Prop where
  nbuf_le : s.build.nbuf ≤ 255
  bufs_length : s.bufs.length = s.build.nbuf
  chains_length : s.chains.length = 3 + s.build.nchan
  holds : ∀ c, c < 3 + s.build.nchan → HoldsChain s c (s.chainList c)

/-- Chain `c` of `t` holds `l`, and besides `c` only buffer `b`, which is on no other chain before or after, has moved. -/
structure ChainEdit (s t : State) (c : Nat) (b : Handle) (l : List Handle) : Prop where
  pool : PoolEdit s t
  holds : HoldsChain t c l
  chain_ne : ∀ d, d ≠ c → t.chain d = s.chain d
  buf_ne : ∀ h, h ≠ b → (s.buf h).loc ≠ .chain c → t.buf h = s.buf h
  tags : ∀ h, h ≠ b → t.buf h = { s.buf h with next := (t.buf h).next }
  before : ∀ d, d ≠ c → (s.buf b).loc ≠ .chain d
  after : ∀ d, d ≠ c → (t.buf b).loc ≠ .chain d

theorem chainsSound_of_sound {s : State} (h : s.sound) : ChainsSound s := by
  obtain ⟨⟨⟨⟨-, hnbuf⟩, -⟩, hbufs, hchains, -, -⟩, -, hholds, -⟩ := h
  exact ⟨hnbuf, hbufs, hchains, fun c hc => holdsChain_iff.1 (hholds c hc)⟩

section
variable {s t : State} {c : Nat} {b : Handle} {l m : List Handle}

theorem ChainsSound.lt_bufs_length (hs : ChainsSound s) (hb : s.build.hasBuffer b) : b.toNat < s.bufs.length :=
  hs.bufs_length ▸ hb

theorem ChainsSound.ne_none (hs : ChainsSound s) (hb : s.build.hasBuffer b) : b ≠ NONE :=
  ne_none_of_hasBuffer hs.nbuf_le hb

theorem ChainsSound.head_eq (hs : ChainsSound s) (hc : c < 3 + s.build.nchan) :
    (s.chain c).head = (s.chainList c).headD NONE := (hs.holds c hc).head

/-- A number that names no chain reads as an empty one. -/
theorem chainList_of_length_le (h : s.chains.length ≤ c) : s.chainList c = [] := by
  have hchain : s.chain c = emptyChain := by simp [State.chain, List.getD, h]
  rw [State.chainList, hchain]
  exact State.walk_eq_of_linkedTo (s := s) linkedTo_nil List.not_mem_nil (Nat.zero_le _)

/-! #### What an edit leaves -/

theorem ChainEdit.loc_iff (he : ChainEdit s t c b l) {d : Nat} (hd : d ≠ c) (h : Handle) :
    (t.buf h).loc = .chain d ↔ (s.buf h).loc = .chain d := by
  by_cases hh : h = b
  · subst hh
    exact iff_of_false (he.after d hd) (he.before d hd)
  · rw [he.tags h hh]

theorem ChainEdit.holdsChain_ne (he : ChainEdit s t c b l) {d : Nat} (hd : d ≠ c) (h : HoldsChain s d m) :
    HoldsChain t d m := by
  refine h.congr he.pool.build (he.chain_ne d hd) (fun x hx => ?_) (he.loc_iff hd)
  have hloc := h.loc_eq hx
  rw [he.buf_ne x (fun hxb => he.before d hd (hxb ▸ hloc)) (by simp [hloc, hd])]

theorem ChainEdit.chainList_same (he : ChainEdit s t c b l) (hs : ChainsSound s) : t.chainList c = l :=
  he.holds.chainList_eq (he.pool.build ▸ hs.nbuf_le)

theorem ChainEdit.chainList_ne (he : ChainEdit s t c b l) (hs : ChainsSound s) {d : Nat} (hd : d ≠ c) :
    t.chainList d = s.chainList d := by
  by_cases hlt : d < 3 + s.build.nchan
  · exact (he.holdsChain_ne hd (hs.holds d hlt)).chainList_eq (he.pool.build ▸ hs.nbuf_le)
  · have hle : s.chains.length ≤ d := hs.chains_length ▸ Nat.not_lt.1 hlt
    rw [chainList_of_length_le hle, chainList_of_length_le (he.pool.chains_length ▸ hle)]

theorem ChainEdit.sameChainsBut (he : ChainEdit s t c b l) (hs : ChainsSound s) : SameChainsBut s t [c] :=
  fun _ hd => he.chainList_ne hs (mt List.mem_singleton.2 hd)

theorem ChainEdit.sameTagsBut (he : ChainEdit s t c b l) : SameTagsBut s t [b] := by
  intro h hh
  rw [he.tags h (mt List.mem_singleton.2 hh)]
  exact ⟨rfl, rfl, rfl, rfl⟩

theorem ChainEdit.chainsSound (he : ChainEdit s t c b l) (hs : ChainsSound s) : ChainsSound t where
  nbuf_le := he.pool.build ▸ hs.nbuf_le
  bufs_length := by rw [he.pool.bufs_length, hs.bufs_length, he.pool.build]
  chains_length := by rw [he.pool.chains_length, hs.chains_length, he.pool.build]
  holds d hd := by
    by_cases hdc : d = c
    · subst hdc
      exact he.chainList_same hs ▸ he.holds
    · exact he.chainList_ne hs hdc ▸ he.holdsChain_ne hdc (hs.holds d (he.pool.build ▸ hd))

/-! #### An edit keeps the state sound -/

theorem forall_mem_bufs_iff (hlen : s.bufs.length ≤ 256) {P : Buffer → Prop} :
    (∀ x ∈ s.bufs, P x) ↔ ∀ b : Handle, b.toNat < s.bufs.length → P (s.buf b) := by
  constructor
  · intro h b hb
    rw [State.buf, List.getD_eq_getElem _ _ hb]
    exact h _ (List.getElem_mem hb)
  · intro h x hx
    obtain ⟨i, hi, rfl⟩ := List.mem_iff_getElem.1 hx
    have hnat : (BitVec.ofNat 8 i).toNat = i := Nat.mod_eq_of_lt (by omega)
    have := h (BitVec.ofNat 8 i) (hnat.symm ▸ hi)
    rwa [State.buf, hnat, List.getD_eq_getElem _ _ hi] at this

theorem len_le_of_sound (h : s.sound) (hb : s.build.hasBuffer b) : (s.buf b).len.toNat ≤ s.build.bufCap := by
  obtain ⟨⟨⟨⟨-, hnbuf⟩, -⟩, hbufs, -⟩, ⟨hlens, -⟩, -⟩ := h
  exact (forall_mem_bufs_iff (hbufs ▸ hnbuf.trans (by decide))).1 hlens b (hbufs ▸ hb)

theorem ChainEdit.bufferOk (he : ChainEdit s t c b l) {h : Handle} (hh : h ≠ b) (hok : s.bufferOk h) : t.bufferOk h := by
  obtain ⟨hknown, hnext, href⟩ := hok
  refine ⟨?known, fun hl => ?next, ?ref⟩
  case known => rwa [he.tags h hh, he.pool.build]
  case ref => rwa [he.tags h hh]
  case next =>
    rw [he.tags h hh] at hl
    rw [he.buf_ne h hh (by rintro hc; simp [hc] at hl)]
    exact hnext hl

/-- R33 after an edit: its chains are those of the edit, no holder register changes, and `b` was in no holder, so it is not staged. -/
theorem ChainEdit.poolOk (he : ChainEdit s t c b l) (hs : ChainsSound s) (hok : s.poolOk) (hbefore : (s.buf b).loc ≠ .hold)
    (hafter : (t.buf b).loc ≠ .hold) (hbuffer : t.bufferOk b) : t.poolOk := by
  obtain ⟨-, ⟨hnodup, hhas, hmem⟩, hbuffers, hretx, hstaged⟩ := hok
  have hbuild := he.pool.build
  have hholders : t.holders = s.holders := by rw [State.holders, State.holders, he.pool.slf, he.pool.conns]
  refine ⟨?chains, ⟨hholders ▸ hnodup, ?has, ?mem⟩, ?buffers, ?retx, ?staged⟩
  case chains => exact fun d hd => holdsChain_iff.2 ((he.chainsSound hs).holds d hd)
  case has => rwa [hholders, hbuild]
  case mem =>
    intro h hh
    rw [hholders, hmem h (hbuild ▸ hh)]
    by_cases hhb : h = b
    · subst hhb
      exact iff_of_false hbefore hafter
    · rw [he.tags h hhb]
  case buffers =>
    intro h hh
    by_cases hhb : h = b
    · exact hhb ▸ hbuffer
    · exact he.bufferOk hhb (hbuffers h (hbuild ▸ hh))
  case retx => rwa [State.retxOk, he.pool.conns, hbuild]
  case staged =>
    intro x hx hxnone
    rw [he.pool.conns] at hx
    have hheld : x.staged ∈ s.holders := by
      simp only [State.holders, List.mem_filter, List.mem_append, List.mem_map, decide_eq_true_eq]
      exact ⟨.inr ⟨x, hx, rfl⟩, hxnone⟩
    have hxb : x.staged ≠ b := fun e => hbefore (e ▸ (hmem _ (hhas _ hheld)).1 hheld)
    rw [he.tags _ hxb]
    exact hstaged x hx hxnone

theorem ChainEdit.sound (he : ChainEdit s t c b l) (hs : s.sound) (hbefore : (s.buf b).loc ≠ .hold)
    (hafter : (t.buf b).loc ≠ .hold) (hbuffer : t.bufferOk b) (hlen : (t.buf b).len.toNat ≤ s.build.bufCap) : t.sound := by
  have hchains := chainsSound_of_sound hs
  obtain ⟨⟨hvalid, hbufs, hchainsLen, hslf, hconns⟩, ⟨hlens, hphase, hslots, hhost, harg, hwf⟩, hpool⟩ := hs
  have hbuild := he.pool.build
  have hmax : s.bufs.length ≤ 256 := hbufs ▸ hvalid.1.2.trans (by decide)
  refine ⟨⟨?_, ?_, ?_, ?_, ?_⟩, ⟨?lens, ?_, ?_, ?_, ?_, ?_⟩, he.poolOk hchains hpool hbefore hafter hbuffer⟩
  case lens =>
    rw [forall_mem_bufs_iff hmax] at hlens
    rw [forall_mem_bufs_iff (he.pool.bufs_length ▸ hmax), he.pool.bufs_length, hbuild]
    intro h hh
    by_cases hhb : h = b
    · exact hhb ▸ hlen
    · rw [he.tags h hhb]
      exact hlens h hh
  all_goals
    simpa only [hbuild, he.pool.bufs_length, he.pool.chains_length, he.pool.slf, he.pool.conns, he.pool.regs, he.pool.mem]

/-- A buffer that comes off its chain and is host-held keeps its length, and has no link left. -/
theorem ChainEdit.sound_of_off (he : ChainEdit s t c b l) (hs : s.sound) (hb : s.build.hasBuffer b)
    (hbefore : (s.buf b).loc ≠ .hold) (hbuf : t.buf b = { s.buf b with next := NONE, loc := .off }) : t.sound := by
  refine he.sound hs hbefore (by simp [hbuf]) ?_ ?_
  · simp [State.bufferOk, hbuf, Loc.known]
  · rw [hbuf]
    exact len_le_of_sound hs hb

end

/-! #### The edit that each operation makes -/

section
variable {s t : State} {c : Nat} {b : Handle} {l m : List Handle}

theorem count_add_one {n : Byte} {k : Nat} (h : n.toNat = k) (hk : k < 255) : (n + 1).toNat = k + 1 := by
  bv_omega

/-- An operation that besides `b` changes at most the NEXT of one neighbour `p` keeps every other field of every other buffer. -/
theorem tags_of_neighbour {p n : Handle} (hp : p ≠ NONE → t.buf p = { s.buf p with next := n })
    (hne : ∀ x, x ≠ b → p = NONE ∨ x ≠ p → t.buf x = s.buf x) :
    ∀ x, x ≠ b → t.buf x = { s.buf x with next := (t.buf x).next } := by
  intro x hx
  by_cases hxp : p ≠ NONE ∧ x = p
  · rw [hxp.2, hp hxp.1]
  · rw [hne x hx (by tauto)]

/-- The chain's list after an edit: its registers, its links and the place of `b` decide it, the other members stay. -/
theorem HoldsChain.edited (h : HoldsChain s c m) (hpool : PoolEdit s t) (hb : s.build.hasBuffer b)
    (htags : ∀ x, x ≠ b → t.buf x = { s.buf x with next := (t.buf x).next }) (hmem : ∀ x, x ≠ b → (x ∈ l ↔ x ∈ m))
    (hbl : b ∈ l ↔ (t.buf b).loc = .chain c) (hnodup : l.Nodup) (hhead : (t.chain c).head = l.headD NONE)
    (htail : (t.chain c).tail = l.getLastD NONE) (hcount : (t.chain c).count.toNat = l.length)
    (hlinks : LinkedTo (fun x => (t.buf x).next) l NONE) : HoldsChain t c l where
  head := hhead
  tail := htail
  count := hcount
  links := hlinks
  nodup := hnodup
  hasBuffer x hx := by
    rw [hpool.build]
    by_cases hxb : x = b
    · exact hxb ▸ hb
    · exact h.hasBuffer x ((hmem x hxb).1 hx)
  mem_iff x hx := by
    by_cases hxb : x = b
    · exact hxb ▸ hbl
    · rw [hmem x hxb, htags x hxb]
      exact h.mem_iff x (hpool.build ▸ hx)

end

namespace ChainsSound

variable {s : State} {c : Nat} {b : Handle} {l m : List Handle}

/-- A chain to which a buffer of the pool can come does not hold all of them. -/
theorem length_lt (hs : ChainsSound s) (h : HoldsChain s c l) (hb : s.build.hasBuffer b) (hbl : b ∉ l) : l.length < 255 := by
  have hlen : l.length + 1 ≤ s.build.nbuf :=
    length_le_of_hasBuffer (List.nodup_cons.2 ⟨hbl, h.nodup⟩) (List.forall_mem_cons.2 ⟨hb, h.hasBuffer⟩)
  exact hlen.trans hs.nbuf_le

theorem tail_ne (hs : ChainsSound s) (hc : c < 3 + s.build.nchan) (hb : s.build.hasBuffer b)
    (hloc : (s.buf b).loc ≠ .chain c) : (s.chain c).tail ≠ b := by
  intro e
  exact (hs.holds c hc).notMem hloc (e ▸ (hs.holds c hc).tail_mem (e ▸ hs.ne_none hb))

theorem prev_ne (hs : ChainsSound s) (h : HoldsChain s c (l ++ b :: m)) : l.getLastD NONE ≠ b := by
  intro e
  have hbl : b ∈ l := e ▸ getLastD_mem (e ▸ hs.ne_none (h.hasBuffer b (by simp)))
  exact List.disjoint_of_nodup_append h.nodup hbl List.mem_cons_self

/-- R111 puts a buffer that is on no chain before the buffers of a chain. -/
theorem pushHead_edit (hs : ChainsSound s) (hc : c < 3 + s.build.nchan) (hb : s.build.hasBuffer b)
    (hfree : ∀ d, (s.buf b).loc ≠ .chain d) : ChainEdit s (s.pushHead c b) c b (b :: s.chainList c) := by
  have h := hs.holds c hc
  have hbl : b ∉ s.chainList c := h.notMem (hfree c)
  have hsame := s.pushHead_buf_same c b (hs.lt_bufs_length hb)
  have hne : ∀ x, x ≠ b → (s.pushHead c b).buf x = s.buf x := fun x => s.pushHead_buf_ne c
  have htags : ∀ x, x ≠ b → (s.pushHead c b).buf x = { s.buf x with next := ((s.pushHead c b).buf x).next } :=
    fun x hx => by rw [hne x hx]
  have hchain := s.pushHead_chain_same b (hs.chains_length ▸ hc)
  have hholds : HoldsChain (s.pushHead c b) c (b :: s.chainList c) := by
    refine h.edited (s.pushHead_poolEdit c b) hb htags (fun x hx => by simp [hx]) (by simp [hsame])
      (List.nodup_cons.2 ⟨hbl, h.nodup⟩) ?head ?tail ?count ?links
    case head => rw [hchain]; rfl
    case tail => rw [hchain, h.tail, List.getLastD_cons, getLastD_eq_ite (h.none_notMem hs.nbuf_le) b]
    case count => rw [hchain]; exact count_add_one h.count (hs.length_lt h hb hbl)
    case links =>
      exact linkedTo_cons.2 ⟨by rw [hsame]; exact h.head,
        h.links.congr fun x hx => by rw [hne x (ne_of_mem_of_not_mem hx hbl)]⟩
  exact
    { pool := s.pushHead_poolEdit c b
      holds := hholds
      chain_ne := fun d => s.pushHead_chain_ne b
      buf_ne := fun x hx _ => hne x hx
      tags := htags
      before := fun d _ => hfree d
      after := fun d hd => by simpa [hsame] using Ne.symm hd }

/-- R110 puts a buffer that is on no chain after the buffers of a chain. -/
theorem pushTail_edit (hs : ChainsSound s) (hc : c < 3 + s.build.nchan) (hb : s.build.hasBuffer b)
    (hfree : ∀ d, (s.buf b).loc ≠ .chain d) : ChainEdit s (s.pushTail c b) c b (s.chainList c ++ [b]) := by
  have h := hs.holds c hc
  have hbl : b ∉ s.chainList c := h.notMem (hfree c)
  have htailb := hs.tail_ne hc hb (hfree c)
  have hsame := s.pushTail_buf_same c (hs.lt_bufs_length hb) (Ne.symm htailb)
  have htail : (s.chain c).tail ≠ NONE →
      (s.pushTail c b).buf (s.chain c).tail = { s.buf (s.chain c).tail with next := b } := fun hnone =>
    s.pushTail_buf_tail c (hs.lt_bufs_length (h.hasBuffer _ (h.tail_mem hnone))) hnone htailb
  have hne : ∀ x, x ≠ b → (s.chain c).tail = NONE ∨ x ≠ (s.chain c).tail → (s.pushTail c b).buf x = s.buf x :=
    fun x => s.pushTail_buf_of_ne c
  have htags := tags_of_neighbour htail hne
  have hchain := s.pushTail_chain_same b (hs.chains_length ▸ hc)
  have hholds : HoldsChain (s.pushTail c b) c (s.chainList c ++ [b]) := by
    refine h.edited (s.pushTail_poolEdit c b) hb htags (fun x hx => by simp [hx]) (by simp [hsame])
      (List.nodup_append.2 ⟨h.nodup, List.nodup_singleton b, by simpa using fun x hx => ne_of_mem_of_not_mem hx hbl⟩)
      ?head ?tail ?count ?links
    case head =>
      rw [hchain, h.head]
      simp only [h.tail_eq_none_iff hs.nbuf_le]
      cases s.chainList c <;> simp
    case tail => rw [hchain, List.getLastD_concat]
    case count => rw [hchain, List.length_append]; exact count_add_one h.count (hs.length_lt h hb hbl)
    case links =>
      refine linkedTo_append.2 ⟨h.links.relink h.nodup (fun x hx hlast => ?_) (fun hl => ?_), by simp [hsame]⟩
      · rw [hne x (ne_of_mem_of_not_mem hx hbl) (.inr (h.tail ▸ hlast))]
      · rw [← h.tail, htail (mt (h.tail_eq_none_iff hs.nbuf_le).1 hl)]
        rfl
  exact
    { pool := s.pushTail_poolEdit c b
      holds := hholds
      chain_ne := fun d => s.pushTail_chain_ne b
      buf_ne := fun x hx hloc => hne x hx
        (or_iff_not_imp_left.2 fun hnone e => hloc (e ▸ h.loc_eq (h.tail_mem hnone)))
      tags := htags
      before := fun d _ => hfree d
      after := fun d hd => by simpa [hsame] using Ne.symm hd }

/-- R113 takes a buffer out of its chain, wherever it stands there. -/
theorem unlink_edit (hs : ChainsSound s) (hc : c < 3 + s.build.nchan) (h : HoldsChain s c (l ++ b :: m)) :
    ChainEdit s (s.unlink c (l.getLastD NONE) b) c b (l ++ m) := by
  obtain ⟨hbnot, hrest⟩ := List.nodup_cons.1 (List.nodup_middle.1 h.nodup)
  obtain ⟨hlinkl, hlinkbm⟩ := linkedTo_append.1 h.links
  obtain ⟨hnextb, hlinkm⟩ := linkedTo_cons.1 hlinkbm
  have hb : s.build.hasBuffer b := h.hasBuffer b (by simp)
  have hloc : (s.buf b).loc = .chain c := h.loc_eq (by simp)
  have hnone : NONE ∉ l := fun hl => h.none_notMem hs.nbuf_le (List.mem_append_left _ hl)
  have hprevmem : l.getLastD NONE ≠ NONE → l.getLastD NONE ∈ l := getLastD_mem
  have hprevb := hs.prev_ne h
  have hsame := s.unlink_buf_same c (Ne.symm hprevb) (hs.lt_bufs_length hb)
  have hprev : l.getLastD NONE ≠ NONE → (s.unlink c (l.getLastD NONE) b).buf (l.getLastD NONE) =
      { s.buf (l.getLastD NONE) with next := (s.buf b).next } := fun hp =>
    s.unlink_buf_prev c hprevb hp (hs.lt_bufs_length (h.hasBuffer _ (List.mem_append_left _ (hprevmem hp))))
  have hne : ∀ x, x ≠ b → l.getLastD NONE = NONE ∨ x ≠ l.getLastD NONE →
      (s.unlink c (l.getLastD NONE) b).buf x = s.buf x := fun x => s.unlink_buf_ne c
  have htags := tags_of_neighbour hprev hne
  have hchain := s.unlink_chain_same (l.getLastD NONE) b (hs.chains_length ▸ hc)
  have hholds : HoldsChain (s.unlink c (l.getLastD NONE) b) c (l ++ m) := by
    refine h.edited (s.unlink_poolEdit c _ b) hb htags (fun x hx => by simp [hx])
      (iff_of_false hbnot (by rw [hsame]; simp)) hrest ?head ?tail ?count ?links
    case head =>
      rw [hchain, h.head, hnextb, headD_append, headD_append]
      cases l with
      | nil => rfl
      | cons x k => exact if_neg (mt (getLastD_eq_none_iff hnone).1 (List.cons_ne_nil x k))
    case tail => rw [hchain, h.tail, getLastD_removed h.nodup]
    case count =>
      have hcount := h.count
      rw [hchain]
      simp only [List.length_append, List.length_cons] at hcount ⊢
      bv_omega
    case links =>
      refine linkedTo_append.2 ⟨hlinkl.relink hrest.of_append_left (fun x hx hlast => ?_) (fun hl => ?_),
        hlinkm.congr fun x hx => ?_⟩
      · rw [hne x (ne_of_mem_of_not_mem (List.mem_append_left _ hx) hbnot) (.inr hlast)]
      · rw [hprev (mt (getLastD_eq_none_iff hnone).1 hl)]
        exact hnextb
      · have hxl : x ∉ l := fun hl => List.disjoint_of_nodup_append hrest hl hx
        rw [hne x (ne_of_mem_of_not_mem (List.mem_append_right _ hx) hbnot)
          (or_iff_not_imp_left.2 fun hp => (ne_of_mem_of_not_mem (hprevmem hp) hxl).symm)]
  exact
    { pool := s.unlink_poolEdit c _ b
      holds := hholds
      chain_ne := fun d => s.unlink_chain_ne _ b
      buf_ne := fun x hx hxloc => hne x hx
        (or_iff_not_imp_left.2 fun hp e => hxloc (e ▸ h.loc_eq (List.mem_append_left _ (hprevmem hp))))
      tags := htags
      before := fun d hd => by simpa [hloc] using Ne.symm hd
      after := fun d hd => by rw [hsame]; simp }

end ChainsSound

end Sys2Proof.Machine

/-! ### The pool's commands (40_pool.md R120 to R132, R139, R140)

A command makes its checks, edits the pool, and ends with `finish`, which no claim about the pool sees.  Its checks are a chain of
`if`s in the order of its rule: `if_pos` is a check that fails, `check_passed` one that does not. -/

namespace Sys2Proof.Machine

/-! #### How a command ends -/

section
variable {s t : State} {op err : Byte} {r0 r1 : Word}

theorem check_passed {p : Prop} [Decidable p] {α : Type} {x y : α} (h : p) : (if ¬ p then x else y) = y :=
  if_neg (not_not_intro h)

theorem answers_done {P : State → Prop} (h : P (s.finish op 0 r0 r1)) : Answers (s.done op r0 r1) P := ⟨_, rfl, h⟩

theorem Answers.of_eq {o o' : Answer} {P : State → Prop} (h : Answers o' P) (e : o = o') : Answers o P := e ▸ h

theorem Answers.imp {o : Answer} {P Q : State → Prop} (h : Answers o P) (hpq : ∀ t, P t → Q t) : Answers o Q := by
  obtain ⟨t, ho, hp⟩ := h
  exact ⟨t, ho, hpq t hp⟩

theorem reports_finish (h : t.regs = s.regs) : Reports s (t.finish op 0 r0 r1) op r0 r1 := by
  rw [Reports, State.finish_regs, h]

theorem onlyRegs_finish : OnlyRegs s (s.finish op err r0 r1) :=
  ⟨⟨rfl, rfl, rfl, rfl⟩, ⟨rfl, rfl⟩, fun _ _ => rfl, rfl, rfl, rfl⟩

/-- A command that only returns results. -/
theorem answers_report : Answers (s.done op r0 r1) fun t => Reports s t op r0 r1 ∧ OnlyRegs s t :=
  answers_done ⟨reports_finish rfl, onlyRegs_finish⟩

@[simp] theorem State.finish_chainList (c : Nat) : (s.finish op err r0 r1).chainList c = s.chainList c :=
  State.chainList_congr (s := s) (t := s.finish op err r0 r1) rfl rfl rfl c

theorem sameChainsBut_finish {cs : List Nat} (h : SameChainsBut s t cs) : SameChainsBut s (t.finish op err r0 r1) cs :=
  fun c hc => (t.finish_chainList c).trans (h c hc)

@[simp] theorem State.finish_buf (b : Handle) : (s.finish op err r0 r1).buf b = s.buf b := rfl

theorem sameBufsBut_finish {b : Handle} (h : SameBufsBut s t b) : SameBufsBut s (t.finish op err r0 r1) b := h

theorem sameTagsBut_finish {bs : List Handle} (h : SameTagsBut s t bs) : SameTagsBut s (t.finish op err r0 r1) bs := h

theorem PoolEdit.onlyPool_finish (h : PoolEdit s t) : OnlyPool s (t.finish op err r0 r1) := h.onlyPool

theorem finish_sound (h : s.sound) : (s.finish op err r0 r1).sound := by
  obtain ⟨hshaped, hfields, hchains, hrest⟩ := h
  refine ⟨hshaped, hfields, fun c hc => holdsChain_iff.2 ?_, hrest⟩
  rw [State.finish_chainList]
  exact (holdsChain_iff.1 (hchains c hc)).congr rfl rfl (fun _ _ => rfl) fun _ => Iff.rfl

end

/-! #### Results as words -/

theorem toNat_append_byte {n : Nat} (hi : BitVec n) (lo : Byte) : (hi ++ lo).toNat = hi.toNat * 256 + lo.toNat := by
  rw [BitVec.toNat_append, ← Nat.shiftLeft_add_eq_or_of_lt lo.isLt, Nat.shiftLeft_eq]

theorem ofNat_eq_of_toNat {n : Nat} {w : Word} (h : w.toNat = n) : BitVec.ofNat 32 n = w := by
  rw [← h, BitVec.ofNat_toNat, BitVec.setWidth_eq]

theorem byteWord_eq_ofNat (x : Byte) : byteWord x = BitVec.ofNat 32 x.toNat :=
  (ofNat_eq_of_toNat ((toNat_append_byte 0#24 x).trans (by simp))).symm

theorem byteWord_eq_setWidth (x : Byte) : byteWord x = x.setWidth 32 := by
  rw [byteWord_eq_ofNat, BitVec.ofNat_toNat]

theorem handleWord_eq_setWidth (b : Handle) : handleWord b = b.setWidth 32 := byteWord_eq_setWidth b

theorem handleWord_none : handleWord NONE = 0xFF := by decide

theorem byteWord_add_one {x : Byte} (h : x ≠ 255) : byteWord (x + 1) = BitVec.ofNat 32 (x.toNat + 1) := by
  rw [byteWord_eq_ofNat]
  congr 1
  bv_omega

theorem byteWord_sub_one {x : Byte} (h : x ≠ 0) : byteWord (x - 1) = BitVec.ofNat 32 (x.toNat - 1) := by
  rw [byteWord_eq_ofNat]
  congr 1
  bv_omega

theorem toNat_eq_spare_iff {c : Byte} : c.toNat = SPARE ↔ c = 0 := by
  rw [← BitVec.toNat_inj]
  rfl

/-! #### `PopHead` and `TakeSpare` on the chain's list -/

section
variable {s t : State} {c : Nat} {b : Handle} {l : List Handle}

theorem hostHeld_free (h : s.hostHeld b) (d : Nat) : (s.buf b).loc ≠ .chain d := by simp [h]

/-- An edit of the moved buffer's own record, but for its links, is part of the edit. -/
theorem ChainEdit.setBuf (he : ChainEdit s t c b l) (hb : b.toNat < t.bufs.length) {f : Buffer → Buffer}
    (hnext : (f (t.buf b)).next = (t.buf b).next) (hloc : (f (t.buf b)).loc = (t.buf b).loc) :
    ChainEdit s (t.setBuf b f) c b l := by
  have hsame := t.buf_setBuf_same b f hb
  have hne : ∀ x, x ≠ b → (t.setBuf b f).buf x = t.buf x := fun x => t.buf_setBuf_ne f
  have hfield : ∀ x, ((t.setBuf b f).buf x).next = (t.buf x).next ∧ ((t.setBuf b f).buf x).loc = (t.buf x).loc := by
    intro x
    by_cases hx : x = b
    · rw [hx, hsame]
      exact ⟨hnext, hloc⟩
    · rw [hne x hx]
      exact ⟨rfl, rfl⟩
  exact
    { pool := he.pool.setBuf b f
      holds := he.holds.congr rfl rfl (fun x _ => (hfield x).1) fun x => by rw [(hfield x).2]
      chain_ne := he.chain_ne
      buf_ne := fun x hx hxc => (hne x hx).trans (he.buf_ne x hx hxc)
      tags := fun x hx => by rw [hne x hx, ← he.tags x hx]
      before := he.before
      after := fun d hd => by rw [(hfield b).2]; exact he.after d hd }

namespace ChainsSound

theorem popHead_nil (hs : ChainsSound s) (hc : c < 3 + s.build.nchan) (h : s.chainList c = []) : s.popHead c = (NONE, s) := by
  have hhead : (s.chain c).head = NONE := by rw [hs.head_eq hc, h]; rfl
  rcases s.popHead_cases c with ⟨-, hpop⟩ | ⟨hne, -⟩
  · exact hpop
  · exact absurd hhead hne

theorem popHead_cons (hs : ChainsSound s) (hc : c < 3 + s.build.nchan) (h : s.chainList c = b :: l) :
    s.popHead c = (b, s.unlink c NONE b) := by
  have hold := h ▸ hs.holds c hc
  have hhead : (s.chain c).head = b := hold.head
  have hb := hold.hasBuffer b List.mem_cons_self
  have htail : (s.buf b).next = NONE ↔ (s.chain c).tail = b := by
    obtain ⟨hnext, -⟩ := linkedTo_cons.1 hold.links
    have hnone := hold.none_notMem hs.nbuf_le
    have hnodup := List.nodup_cons.1 hold.nodup
    rw [hnext, hold.tail, List.getLastD_cons]
    rcases l.eq_nil_or_concat with rfl | ⟨k, y, rfl⟩
    · simp
    · rw [List.concat_eq_append, List.getLastD_concat]
      refine iff_of_false (fun e => hnone (List.mem_cons_of_mem _ ?_)) (ne_of_mem_of_not_mem (by simp) hnodup.1)
      rw [← e, List.concat_eq_append]
      cases k <;> simp
  rw [s.popHead_eq_unlink (hhead ▸ hs.ne_none hb) (hhead.symm ▸ htail), hhead]

/-- Taking the head of a chain is an edit of the chain. -/
theorem unlink_head_edit (hs : ChainsSound s) (hc : c < 3 + s.build.nchan) (h : s.chainList c = b :: l) :
    ChainEdit s (s.unlink c NONE b) c b l ∧ (s.unlink c NONE b).buf b = { s.buf b with next := NONE, loc := .off } ∧
      SameBufsBut s (s.unlink c NONE b) b := by
  have hold := h ▸ hs.holds c hc
  have hb := hold.hasBuffer b List.mem_cons_self
  exact ⟨hs.unlink_edit (l := []) hc hold, s.unlink_buf_same c (hs.ne_none hb) (hs.lt_bufs_length hb),
    fun x hx => s.unlink_buf_ne c hx (.inl rfl)⟩

theorem takeSpare_nil (hs : ChainsSound s) (h : s.chainList SPARE = []) : s.takeSpare = (NONE, s) := by
  simp only [State.takeSpare, hs.popHead_nil (Nat.add_pos_left (by decide) _) h, if_true]

/-- R114 on SPARE = b :: l: what `b` becomes, and the edit of SPARE. -/
theorem takeSpare_cons (hs : ChainsSound s) (h : s.chainList SPARE = b :: l) :
    s.takeSpare.1 = b ∧ s.takeSpare.2.buf b = { s.buf b with len := 0, chan := 0, next := NONE, loc := .off } ∧
      SameBufsBut s s.takeSpare.2 b ∧ ChainEdit s s.takeSpare.2 SPARE b l := by
  have hc : SPARE < 3 + s.build.nchan := Nat.add_pos_left (by decide) _
  have hb := (hs.holds SPARE hc).hasBuffer b (h ▸ List.mem_cons_self)
  obtain ⟨he, hbuf, hframe⟩ := hs.unlink_head_edit hc h
  have hlen : b.toNat < (s.unlink SPARE NONE b).bufs.length := he.pool.bufs_length ▸ hs.lt_bufs_length hb
  simp only [State.takeSpare, hs.popHead_cons hc h, if_neg (hs.ne_none hb)]
  refine ⟨trivial, ?_, fun x hx => ?_, he.setBuf hlen rfl rfl⟩
  · rw [State.buf_setBuf_same _ _ _ hlen, hbuf]
  · rw [State.buf_setBuf_ne _ _ hx, hframe x hx]

end ChainsSound

end

/-! #### GET_SPARE, ADD_SPARE and QUEUE -/

/-- Settles O12: R114 is an edit of SPARE, whose buffers have REF = 0 by item 5 of R33. -/
theorem getSpareTakesTheHead : Obligations.GetSpareTakesTheHead := by
  intro s hsound
  have hs := chainsSound_of_sound hsound
  have hspare : SPARE < 3 + s.build.nchan := Nat.add_pos_left (by decide) _
  obtain ⟨-, -, -, -, hbuffers, -⟩ := hsound
  constructor
  · intro b l h
    obtain ⟨hhandle, hbuf, hframe, he⟩ := hs.takeSpare_cons h
    have hold := h ▸ hs.holds SPARE hspare
    obtain ⟨-, -, hspareRef⟩ := hbuffers b (hold.hasBuffer b List.mem_cons_self)
    have href : (s.buf b).ref = 0 := hspareRef (hold.loc_eq List.mem_cons_self)
    refine answers_done ⟨?regs, ?list, sameChainsBut_finish (he.sameChainsBut hs), hbuf, ?ref, sameBufsBut_finish hframe,
      he.pool.onlyPool_finish⟩
    case regs =>
      rw [hhandle, handleWord_eq_setWidth]
      exact reports_finish he.pool.regs
    case list => rw [State.finish_chainList, he.chainList_same hs]
    case ref => exact (congrArg Buffer.ref hbuf).trans href
  · intro h
    have hexec : exec .getSpare s = s.done 0x01 0xFF 0 := by
      show execGetSpare s = _
      rw [execGetSpare, hs.takeSpare_nil h, handleWord_none]
    exact answers_report.of_eq hexec

/-- Settles O13: R115 on a host-held buffer is R111 for REF = 0, and nothing otherwise. -/
theorem addSpareReturnsUnreferencedBuffers : Obligations.AddSpareReturnsUnreferencedBuffers := by
  intro s b hsound
  have hs := chainsSound_of_sound hsound
  have hspare : SPARE < 3 + s.build.nchan := Nat.add_pos_left (by decide) _
  refine ⟨fun h => if_pos h, fun hb h => (check_passed hb).trans (if_pos h), fun hb hheld => ?_⟩
  have hexec : exec (.addSpare b) s = (s.release b).2.done 0x02 (boolWord (s.release b).1) 0 :=
    (check_passed hb).trans (check_passed hheld)
  rw [hexec]
  rcases s.release_cases b with ⟨href, hrelease⟩ | ⟨href, hrelease⟩
  · have he := hs.pushHead_edit hspare hb (hostHeld_free hheld)
    refine ⟨fun _ => ?_, fun h => absurd href h⟩
    rw [hrelease]
    refine answers_done ⟨reports_finish he.pool.regs,
      ⟨sameBufsBut_finish fun x hx => s.pushHead_buf_ne SPARE hx, fun _ => ⟨?list, ?others, ?buf⟩, fun h => absurd href h⟩,
      he.pool.onlyPool_finish⟩
    case list => rw [State.finish_chainList, he.chainList_same hs]
    case others => exact sameChainsBut_finish (he.sameChainsBut hs)
    case buf => exact s.pushHead_buf_same SPARE b (hs.lt_bufs_length hb)
  · refine ⟨fun h => absurd h href, fun _ => ?_⟩
    rw [hrelease]
    exact answers_report

/-- Settles O14: two edits, of SPARE by R114 and then of PENDING by R110.  The spare `x` is off every chain when R110 comes to it,
and `b` is not `x`, which was on SPARE. -/
theorem queueSwapsForASpare : Obligations.QueueSwapsForASpare := by
  intro s b hsound
  have hs := chainsSound_of_sound hsound
  have hspare : SPARE < 3 + s.build.nchan := Nat.add_pos_left (by decide) _
  have hpending : PENDING < 3 + s.build.nchan := Nat.lt_add_right _ (by decide)
  refine ⟨fun h => if_pos h, fun hb h => (check_passed hb).trans (if_pos h), fun hb hheld => ?_⟩
  have hexec : exec (.queue b) s = if s.takeSpare.1 = NONE then s.done 0x03 (handleWord NONE) 0
      else (s.takeSpare.2.pushTail PENDING b).done 0x03 (handleWord s.takeSpare.1) 0 :=
    (check_passed hb).trans (check_passed hheld)
  rw [hexec]
  constructor
  · intro x l h
    obtain ⟨hhandle, hbufx, hframe, he⟩ := hs.takeSpare_cons h
    generalize s.takeSpare = r at hhandle hbufx hframe he ⊢
    obtain ⟨handle, u⟩ := r
    obtain rfl := hhandle.symm
    have hold := h ▸ hs.holds SPARE hspare
    have hbx : b ≠ x := fun e => hostHeld_free hheld SPARE (e ▸ hold.loc_eq List.mem_cons_self)
    have hu := he.chainsSound hs
    have hbufb : u.buf b = s.buf b := hframe b hbx
    have hfree : ∀ d, (u.buf b).loc ≠ .chain d := hbufb ▸ hostHeld_free hheld
    have hbu : u.build.hasBuffer b := he.pool.build ▸ hb
    have hpendingu : PENDING < 3 + u.build.nchan := he.pool.build ▸ hpending
    have he' := hu.pushTail_edit hpendingu hbu hfree
    rw [if_neg (hs.ne_none (hold.hasBuffer x List.mem_cons_self)), handleWord_eq_setWidth]
    refine answers_done ⟨reports_finish (he'.pool.regs.trans he.pool.regs), ?spare, ?pending, ?others, ?bufx, ?bufb, ?tags,
      (he.pool.trans he'.pool).onlyPool_finish⟩
    case spare => rw [State.finish_chainList, he'.chainList_ne hu (by decide), he.chainList_same hs]
    case pending => rw [State.finish_chainList, he'.chainList_same hu, he.chainList_ne hs (by decide)]
    case others =>
      refine sameChainsBut_finish fun d hd => ?_
      obtain ⟨hds, hdp⟩ : d ≠ SPARE ∧ d ≠ PENDING := by simpa using hd
      rw [he'.chainList_ne hu hdp, he.chainList_ne hs hds]
    case bufx =>
      rw [State.finish_buf, he'.buf_ne x (Ne.symm hbx) (by simp [hbufx]), hbufx]
    case bufb =>
      rw [State.finish_buf, u.pushTail_buf_same PENDING (hu.lt_bufs_length hbu)
        (hu.tail_ne hpendingu hbu (hfree _)).symm, hbufb]
    case tags =>
      refine sameTagsBut_finish fun y hy => ?_
      obtain ⟨hyb, hyx⟩ : y ≠ b ∧ y ≠ x := by simpa using hy
      rw [he'.tags y hyb, hframe y hyx]
      exact ⟨rfl, rfl, rfl, rfl⟩
  · intro h
    rw [hs.takeSpare_nil h, if_pos rfl, handleWord_none]
    exact answers_report

end Sys2Proof.Machine

namespace Sys2Proof.Machine

/-! #### REF, UNREF, BUF_SETLEN and BUF_SETCHAN -/

/-- A command that updates the record of buffer `b` changes that record and no other, and no chain. -/
theorem answers_setBuf {s : State} {b : Handle} {f : Buffer → Buffer} (hb : b.toNat < s.bufs.length) {op : Byte} {r0 w0 : Word}
    (hw : r0 = w0) :
    Answers ((s.setBuf b f).done op r0 0) fun t =>
      Reports s t op w0 0 ∧ t.buf b = f (s.buf b) ∧ SameBufsBut s t b ∧ t.chains = s.chains ∧ OnlyPool s t := by
  subst hw
  exact answers_done ⟨reports_finish rfl, s.buf_setBuf_same b f hb, sameBufsBut_finish fun x hx => s.buf_setBuf_ne f hx, rfl,
    ((PoolEdit.refl s).setBuf b f).onlyPool_finish⟩

/-- Settles O15: each command that passes its checks is one update of the record of `b`. -/
theorem countsAndTagsOfABuffer : Obligations.CountsAndTagsOfABuffer := by
  rintro s b v ch ⟨-, hbufs, -⟩
  refine ⟨fun h => ⟨if_pos h, if_pos h, if_pos h, if_pos h⟩, fun hb => ?_⟩
  have hlen : b.toNat < s.bufs.length := hbufs ▸ hb
  refine ⟨?refSpare, ?refFull, ?ref, ?unrefNone, ?unref, ?lenRange, ?lenBusy, ?len, ?chanBusy, ?chan⟩
  case refSpare => exact fun h => (check_passed hb).trans (if_pos h)
  case refFull => exact fun h h' => (check_passed hb).trans ((if_neg h).trans (if_pos h'))
  case ref =>
    intro h h'
    refine (answers_setBuf hlen ?_).of_eq ((check_passed hb).trans ((if_neg h).trans (if_neg h')))
    rw [s.buf_setBuf_same b _ hlen]
    exact byteWord_add_one h'
  case unrefNone => exact fun h => (check_passed hb).trans (if_pos h)
  case unref =>
    intro h
    refine (answers_setBuf hlen ?_).of_eq ((check_passed hb).trans (if_neg h))
    rw [s.buf_setBuf_same b _ hlen]
    exact byteWord_sub_one h
  case lenRange => exact fun h => (check_passed hb).trans (if_pos h)
  case lenBusy => exact fun h h' => (check_passed hb).trans ((if_neg (Nat.not_lt.2 h)).trans (if_pos h'))
  case len =>
    exact fun h h' => (answers_setBuf hlen rfl).of_eq
      ((check_passed hb).trans ((if_neg (Nat.not_lt.2 h)).trans (check_passed h')))
  case chanBusy => exact fun h => (check_passed hb).trans (if_pos h)
  case chan => exact fun h => (answers_setBuf hlen rfl).of_eq ((check_passed hb).trans (check_passed h))

/-! #### CHAIN_PUSH, CHAIN_POP and CHAIN_REMOVE -/

section
variable {s : State} {c : Byte} {b : Handle}

/-- The first check of R127, R128 and R130 in the words of the statements. -/
theorem chainCheck_iff : ¬ s.build.hasChain c ∨ c.toNat = SPARE ↔ ¬ s.build.hasChain c ∨ c = 0 := by
  rw [toNat_eq_spare_iff]

theorem not_chainCheck (hc : s.build.hasChain c) (h0 : c ≠ 0) : ¬ (¬ s.build.hasChain c ∨ c.toNat = SPARE) := by
  rw [chainCheck_iff]
  exact not_or.2 ⟨not_not_intro hc, h0⟩

theorem hasChain_iff : s.build.hasChain c ↔ c.toNat < 3 + s.build.nchan := by
  unfold Config.hasChain
  omega

/-- The edit of R127 at either end. -/
theorem ChainsSound.push_edit (hs : ChainsSound s) (hc : s.build.hasChain c) (hb : s.build.hasBuffer b) (hheld : s.hostHeld b)
    (urgent : Bool) :
    ChainEdit s (if urgent then s.pushHead c.toNat b else s.pushTail c.toNat b) c.toNat b
      (if urgent then b :: s.chainList c.toNat else s.chainList c.toNat ++ [b]) := by
  cases urgent
  · exact hs.pushTail_edit (hasChain_iff.1 hc) hb (hostHeld_free hheld)
  · exact hs.pushHead_edit (hasChain_iff.1 hc) hb (hostHeld_free hheld)

/-- R127 at either end: the pushed buffer, which keeps LEN, REF and CHAN. -/
theorem ChainsSound.push_buf_same (hs : ChainsSound s) (hc : s.build.hasChain c) (hb : s.build.hasBuffer b)
    (hheld : s.hostHeld b) (urgent : Bool) :
    ∃ n, (if urgent then s.pushHead c.toNat b else s.pushTail c.toNat b).buf b =
      { s.buf b with next := n, loc := .chain c.toNat } := by
  cases urgent
  · exact ⟨NONE, s.pushTail_buf_same _ (hs.lt_bufs_length hb)
      (hs.tail_ne (hasChain_iff.1 hc) hb (hostHeld_free hheld _)).symm⟩
  · exact ⟨_, s.pushHead_buf_same _ b (hs.lt_bufs_length hb)⟩

end

/-- Settles O17: both ends are one edit of the chain, and RES0 is the length of its list. -/
theorem chainPushAddsAtTheChosenEnd : Obligations.ChainPushAddsAtTheChosenEnd := by
  intro s c b urgent hsound
  have hs := chainsSound_of_sound hsound
  refine ⟨fun h => if_pos (chainCheck_iff.2 h), fun hc h0 => ?_⟩
  have hpass := not_chainCheck hc h0
  refine ⟨fun h => (if_neg hpass).trans (if_pos h),
    fun hb h => (if_neg hpass).trans ((check_passed hb).trans (if_pos h)), fun hb hheld => ?_⟩
  have he := hs.push_edit hc hb hheld urgent
  obtain ⟨n, hbuf⟩ := hs.push_buf_same hc hb hheld urgent
  refine Answers.of_eq ?_ ((if_neg hpass).trans ((check_passed hb).trans (check_passed hheld)))
  dsimp only
  generalize (if urgent then s.pushHead c.toNat b else s.pushTail c.toNat b) = t at he hbuf ⊢
  have hcount : (t.chain c.toNat).count.toNat = (s.chainList c.toNat).length + 1 := by
    rw [he.holds.count]
    cases urgent <;> simp
  rw [byteWord_eq_ofNat, hcount]
  refine answers_done ⟨reports_finish he.pool.regs, (t.finish_chainList _).trans (he.chainList_same hs),
    sameChainsBut_finish (he.sameChainsBut hs), ?_, ?_, ?_, ?_, sameTagsBut_finish he.sameTagsBut, he.pool.onlyPool_finish⟩
  all_goals rw [State.finish_buf, hbuf]

/-- Settles O18: taking the head is unlinking a buffer that has no predecessor. -/
theorem chainPopTakesTheHead : Obligations.ChainPopTakesTheHead := by
  intro s c hsound
  have hs := chainsSound_of_sound hsound
  refine ⟨fun h => if_pos (chainCheck_iff.2 h), fun hc h0 => ?_⟩
  have hexec : exec (.chainPop c) s = (s.popHead c.toNat).2.done 0x09 (handleWord (s.popHead c.toNat).1) 0 :=
    if_neg (not_chainCheck hc h0)
  have hlt := hasChain_iff.1 hc
  rw [hexec]
  constructor
  · intro b l h
    obtain ⟨he, hbuf, hframe⟩ := hs.unlink_head_edit hlt h
    rw [hs.popHead_cons hlt h, handleWord_eq_setWidth]
    exact answers_done ⟨reports_finish he.pool.regs, (State.finish_chainList _).trans (he.chainList_same hs),
      sameChainsBut_finish (he.sameChainsBut hs), hbuf, sameBufsBut_finish hframe, he.pool.onlyPool_finish⟩
  · intro h
    rw [hs.popHead_nil hlt h, handleWord_none]
    exact answers_report

/-- Where a buffer of a sound state stands on its chain, R113 finds its predecessor and unlinks it. -/
theorem ChainsSound.remove_eq {s : State} (hs : ChainsSound s) {c : Nat} {b : Handle} {l m : List Handle}
    (h : HoldsChain s c (l ++ b :: m)) : s.remove c b = some (s.unlink c (l.getLastD NONE) b) := by
  obtain ⟨hlink, -⟩ := linkedTo_append.1 h.links
  have hbl : b ∉ l := fun hl => List.disjoint_of_nodup_append h.nodup hl List.mem_cons_self
  have hnone : NONE ∉ l := fun hl => h.none_notMem hs.nbuf_le (List.mem_append_left _ hl)
  have hlen : l.length < s.build.nbuf := by
    have := h.length_le
    simp only [List.length_append, List.length_cons] at this
    omega
  apply s.remove_eq_unlink
  rw [h.head, headD_append]
  exact State.findPrev_eq_getLastD hlink hbl hnone hlen

/-- Settles O19: `b` is on its chain's list by R33, between `l` and `m`.  The state stays sound as after every edit; `b` becomes
host-held with its length kept. -/
theorem chainRemoveUnlinksAMember : Obligations.ChainRemoveUnlinksAMember := by
  intro s c b hsound
  have hs := chainsSound_of_sound hsound
  refine ⟨fun h => if_pos (chainCheck_iff.2 h), fun hc h0 => ?_⟩
  have hpass := not_chainCheck hc h0
  refine ⟨fun h => (if_neg hpass).trans (if_pos h),
    fun hb h => (if_neg hpass).trans ((check_passed hb).trans (if_pos h)), fun hb hloc => ?_⟩
  have hlt := hasChain_iff.1 hc
  have hold := hs.holds c.toNat hlt
  obtain ⟨l, m, hlist⟩ := List.append_of_mem ((hold.mem_iff b hb).2 hloc)
  rw [hlist] at hold
  have he := hs.unlink_edit hlt hold
  have hbuf := s.unlink_buf_same c.toNat (hs.prev_ne hold).symm (hs.lt_bufs_length hb)
  have hexec : exec (.chainRemove c b) s = (s.unlink c.toNat (l.getLastD NONE) b).done 0x0B 1 0 := by
    refine (if_neg hpass).trans ((check_passed hb).trans ((if_neg (not_not_intro hloc)).trans ?_))
    rw [hs.remove_eq hold]
  refine ⟨l, m, hlist, ?_⟩
  rw [hexec]
  exact answers_done ⟨finish_sound (he.sound_of_off hsound hb (by simp [hloc]) hbuf), reports_finish he.pool.regs,
    (State.finish_chainList _).trans (he.chainList_same hs), sameChainsBut_finish (he.sameChainsBut hs), hbuf,
    sameTagsBut_finish he.sameTagsBut, he.pool.onlyPool_finish⟩

end Sys2Proof.Machine

/-! ### NOP and the queries (R125, R126, R129, R131, R132, R330) -/

namespace Sys2Proof.Machine

open BitVec (extractLsb'_append_eq_left extractLsb'_append_eq_right extractLsb'_append_eq_of_le)

/-! #### The words of BUF_INFO -/

theorem bufInfo0_len (x : Buffer) : (bufInfo0 x).extractLsb' 0 16 = x.len := extractLsb'_append_eq_right

theorem bufInfo0_ref (x : Buffer) : (bufInfo0 x).extractLsb' 16 8 = x.ref := extractLsb'_append_append_middle _ _ _

theorem bufInfo0_chan (x : Buffer) : (bufInfo0 x).extractLsb' 24 4 = x.chan :=
  (extractLsb'_append_eq_of_le (by decide)).trans (extractLsb'_append_append_middle _ _ _)

theorem bufInfo0_reserved (x : Buffer) : (bufInfo0 x).extractLsb' 28 4 = 0 :=
  (extractLsb'_append_eq_of_le (by decide)).trans
    ((extractLsb'_append_eq_of_le (by decide)).trans extractLsb'_append_eq_left)

theorem bufInfo1_loc (x : Buffer) : (bufInfo1 x).extractLsb' 0 5 = locCode x.loc := extractLsb'_append_eq_right

theorem bufInfo1_reservedLow (x : Buffer) : (bufInfo1 x).extractLsb' 5 3 = 0 := extractLsb'_append_append_middle _ _ _

theorem bufInfo1_next (x : Buffer) : (bufInfo1 x).extractLsb' 8 8 = x.next :=
  (extractLsb'_append_eq_of_le (by decide)).trans (extractLsb'_append_append_middle _ _ _)

theorem bufInfo1_reservedHigh (x : Buffer) : (bufInfo1 x).extractLsb' 16 16 = 0 :=
  (extractLsb'_append_eq_of_le (by decide)).trans
    ((extractLsb'_append_eq_of_le (by decide)).trans extractLsb'_append_eq_left)

/-! #### The statement -/

theorem boolWord_ne_zero (x : Byte) : boolWord (x != 0) = if x = 0 then 0 else 1 := by
  by_cases h : x = 0 <;> simp [boolWord, h]

/-- NOP reads no field but OP (R92, R330). -/
theorem decode_of_lt {w : Word} (h : w.toNat < 2 ^ 24) : decode w = .instr .nop := by
  have hop : opField w = Instr.nop.opcode := BitVec.eq_of_toNat_eq (by rw [opField_toNat, Nat.div_eq_of_lt h]; rfl)
  exact (decode_eq_instr_iff_operands hop).2 ⟨BitVec.and_zero, BitVec.and_zero⟩

/-- Settles O16: past its check each command is one `done`, with the words above as results. -/
theorem nopAndPoolQueriesOnlyReport : Obligations.NopAndPoolQueriesOnlyReport := by
  intro s b c
  refine ⟨⟨answers_report, fun _ => decode_of_lt⟩, fun h => ⟨if_pos h, if_pos h, if_pos h⟩, fun h => ⟨if_pos h, if_pos h⟩,
    fun hb => ⟨?retained, ?bufInfo, ?chainNext⟩, fun hc => ⟨?chainPeek, ?chainCount⟩⟩
  case retained =>
    rw [← boolWord_ne_zero]
    exact answers_report.of_eq (check_passed hb)
  case bufInfo =>
    refine (answers_report.imp fun t ⟨hreports, honly⟩ => ?_).of_eq (check_passed hb)
    refine ⟨honly, _, _, hreports, bufInfo0_len _, bufInfo0_ref _, bufInfo0_chan _, bufInfo0_reserved _,
      bufInfo1_reservedLow _, bufInfo1_next _, bufInfo1_reservedHigh _, fun h => ?_, fun h => ?_, fun c' h => ?_⟩
    all_goals
      rw [bufInfo1_loc, h]
      rfl
  case chainNext =>
    rw [← handleWord_eq_setWidth]
    exact answers_report.of_eq (check_passed hb)
  case chainPeek =>
    rw [← handleWord_eq_setWidth, ← byteWord_eq_setWidth]
    exact answers_report.of_eq (check_passed hc)
  case chainCount =>
    rw [← byteWord_eq_setWidth]
    exact answers_report.of_eq (check_passed hc)

end Sys2Proof.Machine

/-! ### The bytes of a buffer (R133 to R138) -/

namespace Sys2Proof.Machine

/-! #### Reads -/

section
variable {s : State} {b : Handle} {o : Nat}

theorem memRead_one : s.memRead b o 1 = 0#24 ++ s.readByte b o := by
  apply ofNat_eq_of_toNat
  rw [toNat_append_byte (n := 24)]
  rfl

theorem memRead_two : s.memRead b o 2 = 0#16 ++ s.readByte b o ++ s.readByte b (o + 1) := by
  apply ofNat_eq_of_toNat
  rw [toNat_append_byte (n := 24), toNat_append_byte (n := 16)]
  rfl

theorem memRead_four : s.memRead b o 4 =
    s.readByte b o ++ s.readByte b (o + 1) ++ s.readByte b (o + 2) ++ s.readByte b (o + 3) := by
  apply ofNat_eq_of_toNat
  rw [toNat_append_byte (n := 24), toNat_append_byte (n := 16), toNat_append_byte (n := 8)]
  simp [beNat, State.readBytes, List.range_succ]

end

section
variable {s : State} {b : Handle} {o : Half} {op : Byte} {n : Nat}

theorem bufRead_range (hb : s.build.hasBuffer b) (h : s.build.bufCap < o.toNat + n) :
    bufRead op n b o s = .next (s.errored op 6) :=
  (check_passed hb).trans (if_pos (Nat.not_le.2 h))

theorem answers_bufRead (hb : s.build.hasBuffer b) (h : o.toNat + n ≤ s.build.bufCap) :
    Answers (bufRead op n b o s) fun t => Reports s t op (s.memRead b o.toNat n) 0 ∧ OnlyRegs s t :=
  answers_report.of_eq ((check_passed hb).trans (check_passed h))

end

/-- Settles O20: the three widths are `bufRead` with 1, 2 and 4 bytes. -/
theorem bufReadsReturnTheBytes : Obligations.BufReadsReturnTheBytes := by
  intro s b o
  refine ⟨fun h => ⟨if_pos h, if_pos h, if_pos h⟩, fun hb => ?_⟩
  refine ⟨bufRead_range hb, fun h => ?_, bufRead_range hb, fun h => ?_, bufRead_range hb, fun h => ?_⟩
  · rw [← memRead_one]
    exact answers_bufRead hb h
  · rw [← memRead_two]
    exact answers_bufRead hb h
  · rw [← memRead_four]
    exact answers_bufRead hb h

/-! #### Writes -/

theorem beBytes_length (n : Nat) (v : Word) : (beBytes n v).length = n := by simp [beBytes]

section
variable {s : State} {b : Handle} {o n : Nat} {v : Word}

/-- MemWrite puts the byte of weight `n - 1 - i` at place `i` (R71). -/
theorem readByte_memWrite (hfit : o + n ≤ 65536) {i : Nat} (hi : i < n) :
    (s.memWrite b o n v).readByte b (o + i) = v.extractLsb' (8 * (n - 1 - i)) 8 := by
  rw [State.memWrite, State.readByte_writeBytes _ _ _ _ _ _ (by rwa [beBytes_length]) (by omega), beBytes_length,
    if_pos ⟨rfl, Nat.le_add_right o i, Nat.add_lt_add_left hi o⟩, Nat.add_sub_cancel_left]
  simp [beBytes, List.getD, hi]

theorem sameDataBut_memWrite (hfit : o + n ≤ 65536) : SameDataBut s (s.memWrite b o n v) b o n := by
  intro h p hp hout
  rw [State.memWrite, State.readByte_writeBytes _ _ _ _ _ _ (by rwa [beBytes_length]) hp, beBytes_length, if_neg hout]

end

section
variable {s : State} {b : Handle} {o : Half} {op : Byte} {n : Nat}

theorem bufWrite_range (hb : s.build.hasBuffer b) (h : s.build.bufCap < o.toNat + n) :
    bufWrite op n b o s = .next (s.errored op 6) :=
  (check_passed hb).trans (if_pos (Nat.not_le.2 h))

theorem bufWrite_busy (hb : s.build.hasBuffer b) (h : o.toNat + n ≤ s.build.bufCap) (hheld : ¬ s.hostHeld b) :
    bufWrite op n b o s = .next (s.errored op 4) :=
  (check_passed hb).trans ((check_passed h).trans (if_pos hheld))

/-- A write that passes its checks; BUF_CAP keeps it within the data of `b` (R13). -/
theorem answers_bufWrite (hvalid : s.build.valid) (hb : s.build.hasBuffer b) (h : o.toNat + n ≤ s.build.bufCap)
    (hheld : s.hostHeld b) :
    Answers (bufWrite op n b o s) fun t =>
      Reports s t op 0 0 ∧ (∀ i, i < n → t.readByte b (o.toNat + i) = s.regs.arg0.extractLsb' (8 * (n - 1 - i)) 8) ∧
        SameDataBut s t b o.toNat n ∧ OnlyData s t := by
  obtain ⟨-, ⟨-, hcap⟩, -⟩ := hvalid
  have hfit : o.toNat + n ≤ 65536 := h.trans (hcap.trans (by decide))
  refine (answers_done ⟨reports_finish rfl, fun i hi => ?_, ?_, ?_⟩).of_eq
    ((check_passed hb).trans ((check_passed h).trans (check_passed hheld)))
  · exact readByte_memWrite hfit hi
  · exact sameDataBut_memWrite hfit
  · exact ⟨⟨rfl, rfl, rfl, rfl⟩, ⟨rfl, rfl⟩, rfl, rfl, rfl⟩

end

/-- Settles O21: the three widths are `bufWrite` with 1, 2 and 4 bytes. -/
theorem bufWritesStoreTheBytes : Obligations.BufWritesStoreTheBytes := by
  intro s b o hvalid
  refine ⟨fun h => ⟨if_pos h, if_pos h, if_pos h⟩, fun hb => ?_⟩
  refine ⟨bufWrite_range hb, bufWrite_busy hb, fun h hheld => ?_, bufWrite_range hb, bufWrite_busy hb, fun h hheld => ?_,
    bufWrite_range hb, bufWrite_busy hb, fun h hheld => ?_⟩
  all_goals
    refine (answers_bufWrite hvalid hb h hheld).imp fun t ⟨hreports, hbytes, hdata, honly⟩ => ?_
  · exact ⟨hreports, hbytes 0 (by decide), hdata, honly⟩
  · exact ⟨hreports, hbytes 0 (by decide), hbytes 1 (by decide), hdata, honly⟩
  · exact ⟨hreports, hbytes 0 (by decide), hbytes 1 (by decide), hbytes 2 (by decide), hbytes 3 (by decide), hdata, honly⟩

end Sys2Proof.Machine

/-! ### The accumulator commands (41_checksum.md R160 to R165) -/

namespace Sys2Proof.Machine

section
variable {s : State} {op : Byte} {r0 r1 : Word} {a : Csa} {d : List Byte}

theorem onlyCsa_setCsa_finish {err : Byte} : OnlyCsa s ((s.setCsa a).finish op err r0 r1) :=
  ⟨⟨rfl, rfl, rfl, rfl⟩, ⟨rfl, rfl⟩, fun _ _ => rfl, rfl, rfl⟩

theorem answers_setCsa :
    Answers ((s.setCsa a).done op r0 r1) fun t => Reports s t op r0 r1 ∧ t.csa = a ∧ OnlyCsa s t :=
  answers_done ⟨reports_finish rfl, rfl, onlyCsa_setCsa_finish⟩

/-- A command that adds bytes (R161 to R164) returns the ACC it leaves. -/
theorem answers_accumulate :
    Answers (s.accumulate op d) fun t => Reports s t op t.csa.acc 0 ∧ t.csa = addBytes s.csa d ∧ OnlyCsa s t := by
  refine answers_setCsa.imp fun t ⟨hreports, hcsa, honly⟩ => ⟨?_, hcsa, honly⟩
  rwa [hcsa]

/-- The two bytes of ARG0[15:0], most significant first (R161). -/
theorem bytes16_arg0Low : bytes16 s.arg0Low = [s.regs.arg0.extractLsb' 8 8, s.regs.arg0.extractLsb' 0 8] := by
  have hbyte (k : Nat) (h : k + 8 ≤ 16) : s.arg0Low.extractLsb' k 8 = s.regs.arg0.extractLsb' k 8 := by
    rw [State.arg0Low, BitVec.extractLsb'_extractLsb'_of_le h]
  rw [bytes16, hbyte 8 (by decide), hbyte 0 (by decide)]

/-- A selector above 1 names neither ARGADDR nor HOSTADDR (R164). -/
theorem execCsAddaddr_range {sel : Byte} (h : 1 < sel.toNat) : execCsAddaddr sel s = .next (s.errored 0x24 6) := by
  have h0 : sel ≠ 0 := fun e => absurd h (e ▸ by decide)
  have h1 : sel ≠ 1 := fun e => absurd h (e ▸ by decide)
  exact (if_neg h0).trans (if_neg h1)

end

/-- Settles O30: past its checks each command but CS_CLEAR and CS_FINAL is one `accumulate`. -/
theorem accumulatorCommandsAddTheirBytes : Obligations.AccumulatorCommandsAddTheirBytes := by
  intro s b o sel
  refine ⟨answers_setCsa, ?csAdd16, answers_accumulate, fun hb => if_pos hb, fun hb h => ?csAddbufRange, fun hb h => ?csAddbuf,
    answers_accumulate, answers_accumulate, execCsAddaddr_range, answers_report⟩
  case csAdd16 =>
    rw [← bytes16_arg0Low]
    exact answers_accumulate
  case csAddbufRange => exact (check_passed hb).trans (if_pos (Nat.not_le.2 h))
  case csAddbuf => exact answers_accumulate.of_eq ((check_passed hb).trans (check_passed h))

end Sys2Proof.Machine

/-! ### Byte sequences with a field patched (20_memory.md R71, R72) -/

namespace Sys2Proof.Machine

section
variable {d v w : List Byte} {i j k n : Nat}

/-- What a patch does, at every place. -/
theorem getElem?_patch (h : i + v.length ≤ d.length) (j : Nat) :
    (patch d i v)[j]? = if i ≤ j ∧ j < i + v.length then v[j - i]? else d[j]? := by
  have hi : (d.take i).length = i := List.length_take_of_le (by omega)
  rw [patch, List.append_assoc]
  rcases Nat.lt_or_ge j i with hj | hj
  · rw [List.getElem?_append_left (by omega), List.getElem?_take_of_lt hj, if_neg (by omega)]
  · rw [List.getElem?_append_right (by omega), hi]
    rcases Nat.lt_or_ge (j - i) v.length with hv | hv
    · rw [List.getElem?_append_left hv, if_pos (by omega)]
    · rw [List.getElem?_append_right hv, List.getElem?_drop, if_neg (by omega)]
      grind

theorem length_patch (h : i + v.length ≤ d.length) : (patch d i v).length = d.length := by
  simp only [patch, List.length_append, List.length_take, List.length_drop]
  omega

theorem getElem?_slice (d : List Byte) (i n j : Nat) : (slice d i n)[j]? = if j < n then d[i + j]? else none := by
  rw [slice, List.getElem?_take, List.getElem?_drop]

theorem length_slice (h : i + n ≤ d.length) : (slice d i n).length = n := by
  simp only [slice, List.length_take, List.length_drop]
  omega

/-! #### Two patches -/

theorem patch_patch_same (h : i + v.length ≤ d.length) (hw : w.length = v.length) : patch (patch d i v) i w = patch d i w := by
  refine List.ext_getElem? fun j => ?_
  rw [getElem?_patch (by rwa [length_patch h, hw]), getElem?_patch h, getElem?_patch (by rwa [hw])]
  grind

theorem patch_patch_comm (hv : i + v.length ≤ d.length) (hw : j + w.length ≤ d.length)
    (hout : i + v.length ≤ j ∨ j + w.length ≤ i) : patch (patch d i v) j w = patch (patch d j w) i v := by
  refine List.ext_getElem? fun k => ?_
  rw [getElem?_patch (by rwa [length_patch hv]), getElem?_patch hv, getElem?_patch (by rwa [length_patch hw]),
    getElem?_patch hw]
  grind

/-- Two fields written again: only the last bytes of each count. -/
theorem patch_fields_again {v' w' : List Byte} (hij : i + v.length ≤ j) (hw : j + w.length ≤ d.length)
    (hv' : v'.length = v.length) (hw' : w'.length = w.length) :
    patch (patch (patch (patch d i v) j w) i v') j w' = patch (patch d i v') j w' := by
  have hv : i + v.length ≤ d.length := by omega
  rw [patch_patch_comm (w := v') (by rwa [length_patch hv]) (by rwa [length_patch hv, hv']) (.inr (by rwa [hv'])),
    patch_patch_same hv hv', patch_patch_same (by rwa [length_patch (by rwa [hv'])]) hw']

/-! #### A part of a patched sequence -/

theorem take_patch_of_le (h : i + v.length ≤ d.length) (hk : k ≤ i) : (patch d i v).take k = d.take k := by
  refine List.ext_getElem? fun j => ?_
  rw [List.getElem?_take, List.getElem?_take, getElem?_patch h]
  grind

theorem take_patch (h : i + v.length ≤ k) (hk : k ≤ d.length) : (patch d i v).take k = patch (d.take k) i v := by
  refine List.ext_getElem? fun j => ?_
  rw [List.getElem?_take, getElem?_patch (by omega), getElem?_patch (by rwa [List.length_take_of_le hk]), List.getElem?_take]
  grind

theorem drop_patch_of_le (h : i + v.length ≤ d.length) (hk : i + v.length ≤ k) : (patch d i v).drop k = d.drop k := by
  refine List.ext_getElem? fun j => ?_
  rw [List.getElem?_drop, List.getElem?_drop, getElem?_patch h, if_neg (by omega)]

theorem drop_patch (h : k + i + v.length ≤ d.length) : (patch d (k + i) v).drop k = patch (d.drop k) i v := by
  refine List.ext_getElem? fun j => ?_
  rw [List.getElem?_drop, getElem?_patch h, getElem?_patch (by rw [List.length_drop]; omega), List.getElem?_drop,
    Nat.add_sub_add_left]
  simp only [Nat.add_assoc, Nat.add_le_add_iff_left, Nat.add_lt_add_iff_left]

theorem slice_patch_same (h : i + v.length ≤ d.length) : slice (patch d i v) i v.length = v := by
  refine List.ext_getElem? fun j => ?_
  rw [getElem?_slice, getElem?_patch h, Nat.add_sub_cancel_left]
  split_ifs with hj hj'
  · rfl
  · omega
  · exact (List.getElem?_eq_none (by omega)).symm

theorem slice_patch_of_disjoint (h : i + v.length ≤ d.length) (hout : i + v.length ≤ k ∨ k + n ≤ i) :
    slice (patch d i v) k n = slice d k n := by
  refine List.ext_getElem? fun j => ?_
  rw [getElem?_slice, getElem?_slice, getElem?_patch h]
  grind

theorem byteAt_eq_getElem? (d : List Byte) (i : Nat) : byteAt d i = d[i]?.getD 0 := List.getD_eq_getElem?_getD

theorem byteAt_patch_of_disjoint (h : i + v.length ≤ d.length) (hout : j < i ∨ i + v.length ≤ j) :
    byteAt (patch d i v) j = byteAt d j := by
  rw [byteAt_eq_getElem?, byteAt_eq_getElem?, getElem?_patch h, if_neg (by omega)]

theorem byteAt_patch_same (h : i + v.length ≤ d.length) (hj : j < v.length) : byteAt (patch d i v) (i + j) = byteAt v j := by
  rw [byteAt_eq_getElem?, byteAt_eq_getElem?, getElem?_patch h, if_pos (by omega), Nat.add_sub_cancel_left]

theorem be16At_patch_of_disjoint (h : i + v.length ≤ d.length) (hout : j + 2 ≤ i ∨ i + v.length ≤ j) :
    be16At (patch d i v) j = be16At d j := by
  rw [be16At, be16At, byteAt_patch_of_disjoint h (by omega), byteAt_patch_of_disjoint h (by omega)]

theorem be16At_bytes16 (c : Half) : be16At (bytes16 c) 0 = c := BitVec.extractLsb'_append_extractLsb'

theorem be16At_patch_bytes16 {c : Half} (h : i + 2 ≤ d.length) : be16At (patch d i (bytes16 c)) i = c := by
  have h0 := byteAt_patch_same (v := bytes16 c) h (by decide : 0 < 2)
  have h1 := byteAt_patch_same (v := bytes16 c) h (by decide : 1 < 2)
  rw [be16At, h1]
  exact (congrArg (be16 · _) h0).trans (be16At_bytes16 c)

end

end Sys2Proof.Machine

/-! ### The checksums of an ICMP packet (42_header.md R170, R179, R203)

A packet is given by its bytes.  `filledIcmp` is what the writers of ICMP packets make of it; the lemmas say that neither checksum
covers its own field nor the other's, so that both are right in the packet that holds them. -/

namespace Sys2Proof.Machine

/-- The checksum of the ICMP message at `h` of packet `d`, over its own field as 0 (R179). -/
def icmpCsum (m : SniffMode) (d : List Byte) (h : Nat) : Half := csum (icmpPh m d h ++ patch (d.drop h) 2 [0, 0])

/-- The checksum of the IPv4 header before `h` of packet `d`, over its own field as 0 (R170). -/
def headerCsum (d : List Byte) (h : Nat) : Half := csum (patch (d.take h) 10 [0, 0])

/-- Packet `d` with its header checksum written; an IPv6 header has none. -/
def filledHeader (ipv : IPVersion) (d : List Byte) (h : Nat) : List Byte :=
  match ipv with
  | .v4 => patch d 10 (bytes16 (headerCsum d h))
  | .v6 => d

/-- Packet `d` with its header checksum and the checksum of its ICMP message at `h` written. -/
def filledIcmp (m : SniffMode) (d : List Byte) (h : Nat) : List Byte :=
  patch (filledHeader m.ipv d h) (h + 2) (bytes16 (icmpCsum m d h))

section
variable {ipv : IPVersion} {m : SniffMode} {d v : List Byte} {h i k n : Nat}

/-- The header checksum of IPv4 stands before the addresses, and the addresses end at byte 20 or later (R170, R171, R177). -/
theorem addresses_end_ge (ipv : IPVersion) : 20 ≤ dstOff ipv + alenOf ipv := by cases ipv <;> decide

theorem addresses_order (ipv : IPVersion) : srcOff ipv + alenOf ipv = dstOff ipv := by cases ipv <;> rfl

/-! #### What a checksum does not cover -/

theorem icmpPh_patch (hv : i + v.length ≤ d.length) (hout : i + v.length ≤ srcOff m.ipv ∨ dstOff m.ipv + alenOf m.ipv ≤ i) :
    icmpPh m (patch d i v) h = icmpPh m d h := by
  have hord := addresses_order m.ipv
  have hsrc : srcOf m.ipv (patch d i v) = srcOf m.ipv d := slice_patch_of_disjoint hv (by omega)
  have hdst : dstOf m.ipv (patch d i v) = dstOf m.ipv d := slice_patch_of_disjoint hv (by omega)
  rw [icmpPh, icmpPh, packetPh, packetPh, hsrc, hdst, length_patch hv]

theorem icmpCsum_patch_header (hv : i + v.length ≤ srcOff m.ipv) (hi : i + v.length ≤ h) (hd : h ≤ d.length) :
    icmpCsum m (patch d i v) h = icmpCsum m d h := by
  have hfits : i + v.length ≤ d.length := by omega
  rw [icmpCsum, icmpCsum, icmpPh_patch hfits (.inl hv), drop_patch_of_le hfits hi]

theorem icmpCsum_patch_field (hend : dstOff m.ipv + alenOf m.ipv ≤ h) (hd : h + 4 ≤ d.length) (hv : v.length = 2) :
    icmpCsum m (patch d (h + 2) v) h = icmpCsum m d h := by
  rw [icmpCsum, icmpCsum, icmpPh_patch (by omega) (.inr (by omega)), drop_patch (by omega),
    patch_patch_same (w := [0, 0]) (by rw [List.length_drop]; omega) hv.symm]

theorem headerCsum_patch_of_le (hv : i + v.length ≤ d.length) (hi : h ≤ i) : headerCsum (patch d i v) h = headerCsum d h := by
  rw [headerCsum, headerCsum, take_patch_of_le hv hi]

theorem headerCsum_patch_field (hv : v.length = 2) (hh : 12 ≤ h) (hd : h ≤ d.length) :
    headerCsum (patch d 10 v) h = headerCsum d h := by
  rw [headerCsum, headerCsum, take_patch (by omega) hd,
    patch_patch_same (w := [0, 0]) (by rw [List.length_take_of_le hd]; omega) hv.symm]

/-! #### The header checksum written -/

theorem length_filledHeader (hd : 12 ≤ d.length) : (filledHeader ipv d h).length = d.length := by
  cases ipv
  · exact length_patch hd
  · rfl

theorem slice_filledHeader (hd : 12 ≤ d.length) (hk : srcOff ipv ≤ k) : slice (filledHeader ipv d h) k n = slice d k n := by
  cases ipv
  · exact slice_patch_of_disjoint hd (.inl hk)
  · rfl

/-- A patch behind the header commutes with the header checksum. -/
theorem filledHeader_patch (hv : i + v.length ≤ d.length) (hh : 12 ≤ h) (hi : h ≤ i) :
    filledHeader ipv (patch d i v) h = patch (filledHeader ipv d h) i v := by
  cases ipv
  · rw [filledHeader, filledHeader, headerCsum_patch_of_le hv hi, patch_patch_comm hv _ (.inr _)]
    all_goals rw [bytes16, List.length_cons, List.length_singleton]; omega
  · rfl

theorem icmpCsum_filledHeader (hh : 12 ≤ h) (hd : h ≤ d.length) :
    icmpCsum m (filledHeader m.ipv d h) h = icmpCsum m d h := by
  rcases hv : m.ipv
  · exact icmpCsum_patch_header (by rw [hv]; exact Nat.le_refl 12) hh hd
  · rfl

/-! #### Both checksums written -/

section
variable (hend : dstOff m.ipv + alenOf m.ipv ≤ h) (hd : h + 4 ≤ d.length)
include hend hd

theorem icmpField_fits : h + 2 + 2 ≤ (filledHeader m.ipv d h).length := by
  have := addresses_end_ge m.ipv
  rw [length_filledHeader (by omega)]
  omega

theorem icmpCsum_filledIcmp : icmpCsum m (filledIcmp m d h) h = icmpCsum m d h := by
  have := addresses_end_ge m.ipv
  rw [filledIcmp, icmpCsum_patch_field hend (icmpField_fits hend hd) rfl, icmpCsum_filledHeader (by omega) (by omega)]

/-- The ICMP checksum is right in the packet that holds it. -/
theorem be16At_filledIcmp_message : be16At (filledIcmp m d h) (h + 2) = icmpCsum m (filledIcmp m d h) h := by
  rw [icmpCsum_filledIcmp hend hd]
  exact be16At_patch_bytes16 (icmpField_fits hend hd)

/-- So is the header checksum. -/
theorem be16At_filledIcmp_header (hv4 : m.ipv = .v4) : be16At (filledIcmp m d h) 10 = headerCsum (filledIcmp m d h) h := by
  have hge := addresses_end_ge m.ipv
  have hfits := icmpField_fits hend hd
  rw [filledIcmp, be16At_patch_of_disjoint hfits (.inl (by omega)), headerCsum_patch_of_le hfits (by omega), hv4, filledHeader,
    headerCsum_patch_field rfl (by omega) (by omega)]
  exact be16At_patch_bytes16 (by omega)

/-- Both checksum fields of an IPv4 packet taken back to 0. -/
theorem zeroed_filledIcmp_v4 (hv4 : m.ipv = .v4) :
    patch (patch (filledIcmp m d h) 10 [0, 0]) (h + 2) [0, 0] = patch (patch d 10 [0, 0]) (h + 2) [0, 0] := by
  have hge := addresses_end_ge m.ipv
  rw [filledIcmp, hv4, filledHeader]
  exact patch_fields_again (v := bytes16 _) (w := bytes16 _) (show 10 + 2 ≤ h + 2 by omega) hd rfl rfl

omit hend in
/-- The checksum field of an IPv6 packet taken back to 0. -/
theorem zeroed_filledIcmp_v6 (hv6 : m.ipv = .v6) : patch (filledIcmp m d h) (h + 2) [0, 0] = patch d (h + 2) [0, 0] := by
  rw [filledIcmp, hv6, filledHeader]
  exact patch_patch_same (v := bytes16 _) hd rfl

theorem slice_filledIcmp (hk : srcOff m.ipv ≤ k) (hn : k + n ≤ h + 2) : slice (filledIcmp m d h) k n = slice d k n := by
  have := addresses_end_ge m.ipv
  rw [filledIcmp, slice_patch_of_disjoint (icmpField_fits hend hd) (.inr hn), slice_filledHeader (by omega) hk]

end

end

end Sys2Proof.Machine

/-! ### The bytes of a packet in its buffer (20_memory.md R70 to R73) -/

namespace Sys2Proof.Machine

section
variable {s t : State} {b : Handle} {d : List Byte} {o n k i : Nat}

theorem getElem?_readBytes (s : State) (b : Handle) (o n i : Nat) :
    (s.readBytes b o n)[i]? = if i < n then some (s.readByte b (o + i)) else none := by
  rw [State.readBytes, List.getElem?_map]
  rcases Nat.lt_or_ge i n with h | h
  · rw [List.getElem?_range h, if_pos h, Option.map_some]
  · rw [List.getElem?_eq_none (by rwa [List.length_range]), if_neg (Nat.not_lt.2 h), Option.map_none]

theorem slice_readBytes (h : k + i ≤ n) : slice (s.readBytes b o n) k i = s.readBytes b (o + k) i := by
  refine List.ext_getElem? fun j => ?_
  rw [getElem?_slice, getElem?_readBytes, getElem?_readBytes, Nat.add_assoc]
  grind

theorem drop_readBytes (k : Nat) : (s.readBytes b o n).drop k = s.readBytes b (o + k) (n - k) := by
  refine List.ext_getElem? fun j => ?_
  rw [List.getElem?_drop, getElem?_readBytes, getElem?_readBytes, Nat.add_assoc]
  grind

theorem take_readBytes (h : k ≤ n) : (s.readBytes b o n).take k = s.readBytes b o k :=
  slice_readBytes (k := 0) (by omega)

@[simp] theorem length_packet : (s.packet b).length = (s.buf b).len.toNat := s.readBytes_length b 0 _

/-- A part of the packet, read from the buffer. -/
theorem readBytes_eq_slice (h : o + n ≤ (s.buf b).len.toNat) : s.readBytes b o n = slice (s.packet b) o n := by
  rw [State.packet, slice_readBytes h, Nat.zero_add]

/-- What a store within the packet does to the packet. -/
theorem packet_writeBytes (h : o + d.length ≤ (s.buf b).len.toNat) :
    (s.writeBytes b o d).packet b = patch (s.packet b) o d := by
  have hlen := (s.buf b).len.isLt
  refine List.ext_getElem? fun j => ?_
  rw [getElem?_patch (by rwa [length_packet]), State.packet, State.packet, getElem?_readBytes, getElem?_readBytes]
  change (if j < (s.buf b).len.toNat then _ else _) = _
  rcases Nat.lt_or_ge j (s.buf b).len.toNat with hj | hj
  · rw [if_pos hj, if_pos hj, State.readByte_writeBytes _ _ _ _ _ _ (by omega) (by omega), Nat.zero_add]
    grind
  · rw [if_neg (by omega), if_neg (by omega), if_neg (by omega)]

theorem readBytes_writeBytes_same (h : o + d.length ≤ 65536) : (s.writeBytes b o d).readBytes b o d.length = d := by
  refine List.ext_getElem? fun j => ?_
  rw [getElem?_readBytes]
  split_ifs with hj
  · rw [State.readByte_writeBytes _ _ _ _ _ _ h (by omega)]
    grind
  · exact (List.getElem?_eq_none (by omega)).symm

/-! #### What a store leaves -/

theorem sameDataBut_writeBytes (h : o + d.length ≤ 65536) : SameDataBut s (s.writeBytes b o d) b o d.length := by
  intro c p hp hout
  rw [State.readByte_writeBytes _ _ _ _ _ _ h hp, if_neg hout]

theorem SameDataBut.mono (h : SameDataBut s t b o n) (ho : k ≤ o) (hn : o + n ≤ k + i) : SameDataBut s t b k i :=
  fun c p hp hout => h c p hp fun ⟨hc, h1, h2⟩ => hout ⟨hc, by omega, by omega⟩

theorem SameDataBut.trans {u : State} (h : SameDataBut s t b o n) (h' : SameDataBut t u b o n) : SameDataBut s u b o n :=
  fun c p hp hout => (h' c p hp hout).trans (h c p hp hout)

end

end Sys2Proof.Machine

/-! ### What the header writers write (42_header.md R186, R187, R200, R203) -/

namespace Sys2Proof.Machine

section
variable {s : State} {b : Handle} {h : Nat}

theorem icmpProto_eq (g : Config) : g.icmpProto = icmpProtoOf g.ipv := by
  unfold Config.icmpProto; cases g.ipv <;> rfl

theorem alen_eq (g : Config) : g.alen = alenOf g.ipv := by
  unfold Config.alen; cases g.ipv <;> rfl

theorem iph_eq (g : Config) : g.iph = dstOff g.ipv + alenOf g.ipv := by
  unfold Config.iph; cases g.ipv <;> rfl

theorem addrBytes_length (ipv : IPVersion) (a : AddrWords) : (addrBytes ipv a).length = alenOf ipv := by
  cases ipv <;> rfl

/-! #### `FillL4Csum` of an ICMP message -/

/-- `FillL4Csum` writes the checksum of R179 into the packet's ICMP message and nothing else. -/
theorem fillIcmpCsum_packet (hend : dstOff s.build.ipv + alenOf s.build.ipv ≤ h) (hlen : h + 4 ≤ (s.buf b).len.toNat) :
    (s.fillL4Csum b h s.build.icmpProto 2 .icmp).packet b =
      patch (s.packet b) (h + 2) (bytes16 (icmpCsum s.sniffMode (s.packet b) h)) := by
  have hlen' : h + 4 ≤ (s.packet b).length := by rwa [length_packet]
  have hzero : (s.writeBytes b (h + 2) [0, 0]).packet b = patch (s.packet b) (h + 2) [0, 0] := packet_writeBytes hlen
  have hph : icmpPh s.sniffMode (patch (s.packet b) (h + 2) [0, 0]) h = icmpPh s.sniffMode (s.packet b) h :=
    icmpPh_patch hlen' (.inr (Nat.le_add_right_of_le hend))
  have hcsum : csum (icmpPh s.sniffMode (patch (s.packet b) (h + 2) [0, 0]) h ++
      (patch (s.packet b) (h + 2) [0, 0]).drop h) = icmpCsum s.sniffMode (s.packet b) h := by
    rw [hph, drop_patch hlen', icmpCsum]
  have hfill : s.fillL4Csum b h s.build.icmpProto 2 .icmp =
      (s.writeBytes b (h + 2) [0, 0]).writeBytes b (h + 2) (bytes16 (icmpCsum s.sniffMode (s.packet b) h)) := by
    rw [← hcsum, State.fillL4Csum, hzero, icmpPh, State.sniffMode, icmpProto_eq]
    simp
  rw [hfill, packet_writeBytes hlen, hzero]
  exact patch_patch_same (v := [0, 0]) hlen' rfl

theorem fillIcmpCsum_sameDataBut (hlen : h + 4 ≤ 65536) {p : Byte} :
    SameDataBut s (s.fillL4Csum b h p 2 .icmp) b (h + 2) 2 :=
  (sameDataBut_writeBytes (d := [0, 0]) hlen).trans (sameDataBut_writeBytes (d := bytes16 _) hlen)

end

/-! #### PING_TO_PONG -/

/-- The request `d`, its message at `h`, with the addresses and the type of the reply of `host` (R186). -/
def pongOf (ipv : IPVersion) (host d : List Byte) (h : Nat) : List Byte :=
  patch (patch (patch d (dstOff ipv) (srcOf ipv d)) (srcOff ipv) host) h [echoReplyType ipv]

section
variable {ipv : IPVersion} {d host : List Byte} {h : Nat}
variable (hhost : host.length = alenOf ipv) (hend : dstOff ipv + alenOf ipv ≤ h) (hd : h + 1 ≤ d.length)
include hhost hend hd

/-- The three patches stay within the packet, the addresses side by side before the message. -/
theorem pongOf_fits :
    srcOff ipv + alenOf ipv = dstOff ipv ∧ dstOff ipv + (srcOf ipv d).length ≤ d.length ∧
      srcOff ipv + host.length ≤ (patch d (dstOff ipv) (srcOf ipv d)).length ∧
      h + [echoReplyType ipv].length ≤ (patch (patch d (dstOff ipv) (srcOf ipv d)) (srcOff ipv) host).length := by
  have hord := addresses_order ipv
  have hlen : (srcOf ipv d).length = alenOf ipv := length_slice (by omega)
  have hdst : dstOff ipv + (srcOf ipv d).length ≤ d.length := by omega
  have hsrc : srcOff ipv + host.length ≤ (patch d (dstOff ipv) (srcOf ipv d)).length := by rw [length_patch hdst]; omega
  exact ⟨hord, hdst, hsrc, by rw [length_patch hsrc, length_patch hdst]; exact hd⟩

theorem length_pongOf : (pongOf ipv host d h).length = d.length := by
  obtain ⟨hord, hdst, hsrc, htype⟩ := pongOf_fits hhost hend hd
  rw [pongOf, length_patch htype, length_patch hsrc, length_patch hdst]

/-- The destination is the old source. -/
theorem slice_pongOf_dst : slice (pongOf ipv host d h) (dstOff ipv) (alenOf ipv) = srcOf ipv d := by
  obtain ⟨hord, hdst, hsrc, htype⟩ := pongOf_fits hhost hend hd
  rw [pongOf, slice_patch_of_disjoint htype (.inr hend), slice_patch_of_disjoint hsrc (.inl (by omega))]
  have hlen : (srcOf ipv d).length = alenOf ipv := length_slice (by omega)
  rw [← hlen]
  exact slice_patch_same hdst

/-- The source is the host. -/
theorem slice_pongOf_src : slice (pongOf ipv host d h) (srcOff ipv) (alenOf ipv) = host := by
  obtain ⟨hord, hdst, hsrc, htype⟩ := pongOf_fits hhost hend hd
  rw [pongOf, slice_patch_of_disjoint htype (.inr (by omega)), ← hhost]
  exact slice_patch_same hsrc

theorem slice_pongOf_type : slice (pongOf ipv host d h) h 1 = [echoReplyType ipv] := by
  obtain ⟨-, -, -, htype⟩ := pongOf_fits hhost hend hd
  exact slice_patch_same htype

end

/-- The writes of PING_TO_PONG but for the checksums (R186). -/
def State.pongWrites (s : State) (b : Handle) (h : Nat) : State :=
  ((s.writeBytes b (dstOff s.build.ipv) (s.readBytes b (srcOff s.build.ipv) s.build.alen)).writeBytes b (srcOff s.build.ipv)
    s.hostBytes).writeBytes b h [echoReplyType s.build.ipv]

/-- The writes of PING_TO_PONG with the checksum of the message (R186, R203). -/
def State.pongFilled (s : State) (b : Handle) (h : Nat) : State :=
  (s.pongWrites b h).fillL4Csum b h s.build.icmpProto 2 .icmp

/-- The field written 0, then the checksum of the `h` bytes of the header (R186). -/
def State.fillHeader (s : State) (b : Handle) (h : Nat) : State :=
  let t := s.writeBytes b 10 [0, 0]
  t.writeBytes b 10 (bytes16 (csum (t.readBytes b 0 h)))

section
variable {s : State} {b : Handle} {h : Nat}

theorem makePong_v4 (hv : s.build.ipv = .v4) : s.makePong b h = (s.pongFilled b h).fillHeader b h := by
  simp only [State.makePong, State.pongFilled, State.pongWrites, State.fillHeader, hv]

theorem makePong_v6 (hv : s.build.ipv = .v6) : s.makePong b h = s.pongFilled b h := by
  simp only [State.makePong, State.pongFilled, State.pongWrites, hv]

theorem fillHeader_packet (hh : 12 ≤ h) (hlen : h ≤ (s.buf b).len.toNat) :
    (s.fillHeader b h).packet b = patch (s.packet b) 10 (bytes16 (headerCsum (s.packet b) h)) := by
  have hfits : 10 + 2 ≤ (s.buf b).len.toNat := by omega
  have hlen' : h ≤ (s.packet b).length := by rwa [length_packet]
  have hzero : (s.writeBytes b 10 [0, 0]).packet b = patch (s.packet b) 10 [0, 0] := packet_writeBytes hfits
  have hread : (s.writeBytes b 10 [0, 0]).readBytes b 0 h = patch ((s.packet b).take h) 10 [0, 0] := by
    rw [← take_patch (v := [0, 0]) hh hlen', ← hzero]
    exact (take_readBytes hlen).symm
  rw [State.fillHeader, hread, packet_writeBytes hfits, hzero, headerCsum]
  exact patch_patch_same (w := bytes16 _) (hfits.trans_eq length_packet.symm) rfl

variable (hend : dstOff s.build.ipv + alenOf s.build.ipv ≤ h) (hlen : h + 4 ≤ (s.buf b).len.toNat)
include hend hlen

theorem pongWrites_packet : (s.pongWrites b h).packet b = pongOf s.build.ipv s.hostBytes (s.packet b) h := by
  have hord := addresses_order s.build.ipv
  have halen := alen_eq s.build
  have hhost : s.hostBytes.length = alenOf s.build.ipv := addrBytes_length _ _
  have hdst : dstOff s.build.ipv + (s.readBytes b (srcOff s.build.ipv) s.build.alen).length ≤ (s.buf b).len.toNat := by
    rw [s.readBytes_length]; omega
  have hsrc : srcOff s.build.ipv + s.hostBytes.length ≤ (s.buf b).len.toNat := by omega
  have htype : h + 1 ≤ (s.buf b).len.toNat := by omega
  rw [State.pongWrites, packet_writeBytes htype, packet_writeBytes (s := s.writeBytes b _ _) hsrc, packet_writeBytes hdst, pongOf,
    readBytes_eq_slice (by omega), halen, srcOf]

/-- PING_TO_PONG makes the request the reply of this host with its checksums. -/
theorem makePong_packet :
    (s.makePong b h).packet b = filledIcmp s.sniffMode (pongOf s.build.ipv s.hostBytes (s.packet b) h) h := by
  have hge := addresses_end_ge s.build.ipv
  have hpong : (pongOf s.build.ipv s.hostBytes (s.packet b) h).length = (s.buf b).len.toNat :=
    (length_pongOf (addrBytes_length _ _) hend (by rw [length_packet]; omega)).trans length_packet
  have hfilled : (s.pongFilled b h).packet b = patch (pongOf s.build.ipv s.hostBytes (s.packet b) h) (h + 2)
      (bytes16 (icmpCsum s.sniffMode (pongOf s.build.ipv s.hostBytes (s.packet b) h) h)) := by
    rw [← pongWrites_packet hend hlen]
    exact fillIcmpCsum_packet (s := s.pongWrites b h) hend hlen
  have hcomm := filledHeader_patch (ipv := s.build.ipv) (h := h) (i := h + 2)
    (v := bytes16 (icmpCsum s.sniffMode (pongOf s.build.ipv s.hostBytes (s.packet b) h) h)) (hpong ▸ hlen) (by omega) (by omega)
  refine Eq.trans ?_ hcomm
  rw [← hfilled]
  cases hv : s.build.ipv
  · rw [makePong_v4 hv, fillHeader_packet (s := s.pongFilled b h) (by omega) ?_, filledHeader]
    rw [State.buf_congr (s := s) (by simp [State.pongFilled, State.pongWrites])]
    omega
  · rw [makePong_v6 hv, filledHeader]

end

end Sys2Proof.Machine

/-! #### A packet that Sniff accepts -/

namespace Sys2Proof.Machine

section
variable {m : SniffMode} {d : List Byte} {h k n : Nat} {code : HeaderSniff} {p q : Byte}

/-- The message that Sniff reports is the rest of the packet from `h` on, and has at least 8 bytes (R182 to R184). -/
def MessageAt (d : List Byte) (h k n : Nat) : Prop := k = h ∧ n = d.length - h ∧ h + 8 ≤ d.length

theorem messageAt_of_packet {code' : HeaderSniff} (hlen : 8 ≤ d.length - h)
    (hs : Sniffed.packet code' q h (d.length - h) = .packet code p k n) : MessageAt d h k n := by
  obtain ⟨-, -, rfl, rfl⟩ := Sniffed.packet.inj hs
  exact ⟨rfl, rfl, by omega⟩

theorem sniffTcp_packet (hs : sniffTcp m d h = .packet code p k n) : MessageAt d h k n := by
  simp only [sniffTcp] at hs
  split_ifs at hs
  exact messageAt_of_packet (by omega) hs

theorem sniffUdp_packet (hs : sniffUdp m d h = .packet code p k n) : MessageAt d h k n := by
  simp only [sniffUdp] at hs
  split_ifs at hs
  · exact messageAt_of_packet (by omega) hs
  · exact messageAt_of_packet (by omega) hs

theorem sniffIcmp_packet (hs : sniffIcmp m d h = .packet code p k n) : MessageAt d h k n := by
  simp only [sniffIcmp] at hs
  split_ifs at hs
  · exact messageAt_of_packet (by omega) hs
  · exact messageAt_of_packet (by omega) hs

theorem sniffProto_packet (hs : sniffProto m d h q = .packet code p k n) : MessageAt d h k n := by
  simp only [sniffProto] at hs
  split_ifs at hs
  · exact sniffTcp_packet hs
  · exact sniffUdp_packet hs
  · exact sniffIcmp_packet hs

/-- The header of an accepted packet holds both addresses, and the message after it at least 8 bytes (R180 to R184). -/
theorem sniffBytes_packet (hs : sniffBytes m d = .packet code p h n) :
    dstOff m.ipv + alenOf m.ipv ≤ h ∧ n = d.length - h ∧ h + 8 ≤ d.length := by
  unfold sniffBytes at hs
  split_ifs at hs
  split at hs
  case h_1 hv =>
    simp only [sniffV4] at hs
    split_ifs at hs
    obtain ⟨rfl, hn, hlen⟩ := sniffProto_packet hs
    exact ⟨by rw [hv]; change 20 ≤ _; omega, hn, hlen⟩
  case h_2 hv =>
    simp only [sniffV6] at hs
    split_ifs at hs
    obtain ⟨rfl, hn, hlen⟩ := sniffProto_packet hs
    exact ⟨by rw [hv]; exact Nat.le_refl 40, hn, hlen⟩

end

/-! #### The statement -/

section
variable {s : State} {b : Handle} {h : Nat}

/-- PING_TO_PONG leaves every byte but those of the addresses, the type and the checksums (R186). -/
theorem makePong_readByte {g : Handle} {o : Nat} (ho : o < 65536)
    (hend : dstOff s.build.ipv + alenOf s.build.ipv ≤ h) (hlen : h + 4 ≤ 65536)
    (hout : ¬ (g = b ∧ ((dstOff s.build.ipv ≤ o ∧ o < dstOff s.build.ipv + s.build.alen) ∨
      (srcOff s.build.ipv ≤ o ∧ o < srcOff s.build.ipv + s.build.alen) ∨ o = h ∨ o = h + 2 ∨ o = h + 3 ∨
        (s.build.ipv = .v4 ∧ (o = 10 ∨ o = 11))))) :
    (s.makePong b h).readByte g o = s.readByte g o := by
  have hord := addresses_order s.build.ipv
  have halen := alen_eq s.build
  have hhost : s.hostBytes.length = alenOf s.build.ipv := addrBytes_length _ _
  have hread : (s.readBytes b (srcOff s.build.ipv) s.build.alen).length = s.build.alen := s.readBytes_length _ _ _
  have hwrites : (s.pongWrites b h).readByte g o = s.readByte g o := calc
    _ = _ := sameDataBut_writeBytes (d := [_]) (by change h + 1 ≤ _; omega) g o ho fun ⟨hg, h1, h2⟩ =>
      hout ⟨hg, by change o < h + 1 at h2; omega⟩
    _ = _ := sameDataBut_writeBytes (by omega) g o ho fun ⟨hg, h1, h2⟩ => hout ⟨hg, by omega⟩
    _ = _ := sameDataBut_writeBytes (by omega) g o ho fun ⟨hg, h1, h2⟩ => hout ⟨hg, by omega⟩
  have hfilled : (s.pongFilled b h).readByte g o = s.readByte g o :=
    (fillIcmpCsum_sameDataBut hlen g o ho fun ⟨hg, h1, h2⟩ => hout ⟨hg, by omega⟩).trans hwrites
  cases hv : s.build.ipv
  · have hheader (d : List Byte) (hd : d.length = 2) (t : State) : (t.writeBytes b 10 d).readByte g o = t.readByte g o :=
      sameDataBut_writeBytes (by omega) g o ho fun ⟨hg, h1, h2⟩ => hout ⟨hg, by simp only [hv, true_and]; omega⟩
    rw [makePong_v4 hv, State.fillHeader, hheader _ rfl, hheader _ rfl, hfilled]
  · rw [makePong_v6 hv, hfilled]

theorem makePong_onlyData {op err : Byte} {r0 r1 : Word} : OnlyData s ((s.makePong b h).finish op err r0 r1) := by
  simp [OnlyData, SameSetting, SamePool]

theorem execPingToPong_echo (hb : s.build.hasBuffer b) (hheld : s.hostHeld b) {p : Byte} {n : Nat}
    (hs : s.sniff b = .packet .echoRequest p h n) : execPingToPong b s = (s.makePong b h).done 0x31 1 0 := by
  rw [execPingToPong, check_passed hb, check_passed hheld, hs]

theorem execPingToPong_notEcho (hb : s.build.hasBuffer b) (hheld : s.hostHeld b)
    (hs : ∀ p h n, s.sniff b ≠ .packet .echoRequest p h n) : execPingToPong b s = .next (s.errored 0x31 11) := by
  rw [execPingToPong, check_passed hb, check_passed hheld]
  split
  · next heq => exact absurd heq (hs _ _ _)
  · rfl

end

/-- Settles O39: the packet left is `filledIcmp` of the request with the addresses and the type of the reply. -/
theorem pingToPongWritesTheReply : Obligations.PingToPongWritesTheReply := by
  intro s b
  refine ⟨fun h => if_pos h, fun hb h => (check_passed hb).trans (if_pos h), execPingToPong_notEcho, ?_⟩
  intro hb hheld p h n hs
  refine (answers_done ?_).of_eq (execPingToPong_echo hb hheld hs)
  obtain ⟨hend, -, hmsg⟩ := sniffBytes_packet hs
  replace hend : dstOff s.build.ipv + alenOf s.build.ipv ≤ h := hend
  rw [length_packet] at hmsg
  have hlen : h + 4 ≤ (s.buf b).len.toNat := by omega
  have h16 := (s.buf b).len.isLt
  have hord := addresses_order s.build.ipv
  have hbuf : (s.makePong b h).buf b = s.buf b := State.buf_congr (s.makePong_bufs b h) b
  have hhost : s.hostBytes.length = alenOf s.build.ipv := addrBytes_length _ _
  have hpacket := makePong_packet hend hlen
  have hpong : h + 1 ≤ (s.packet b).length := by rw [length_packet]; omega
  have hd : h + 4 ≤ (pongOf s.build.ipv s.hostBytes (s.packet b) h).length := by
    rwa [length_pongOf hhost hend hpong, length_packet]
  have hslice (k i : Nat) (hk : srcOff s.build.ipv ≤ k) (hi : k + i ≤ h + 2) :
      (s.makePong b h).readBytes b k i = slice (pongOf s.build.ipv s.hostBytes (s.packet b) h) k i := by
    rw [readBytes_eq_slice (by rw [hbuf]; omega), hpacket, slice_filledIcmp hend hd hk hi]
  refine ⟨reports_finish (s.makePong_regs b h), makePong_onlyData, ?dst, ?src, ?type, ?icmpCsum, ?headerCsum, ?frame⟩
  case dst =>
    change (s.makePong b h).readBytes _ _ _ = _
    rw [alen_eq, hslice _ _ (by omega) (by omega), slice_pongOf_dst hhost hend hpong, srcOf, ← readBytes_eq_slice (by omega)]
  case src =>
    change (s.makePong b h).readBytes _ _ _ = s.hostBytes
    rw [alen_eq, hslice _ _ (by omega) (by omega), slice_pongOf_src hhost hend hpong]
  case type =>
    have htype : [(s.makePong b h).readByte b h] = [echoReplyType s.build.ipv] :=
      (hslice h 1 (by omega) (by omega)).trans (slice_pongOf_type hhost hend hpong)
    refine (List.singleton_inj.1 htype).trans ?_
    cases s.build.ipv <;> rfl
  case icmpCsum =>
    change be16At ((s.makePong b h).packet b) _ = icmpCsum s.sniffMode ((s.makePong b h).packet b) h
    rw [hpacket]
    exact be16At_filledIcmp_message hend hd
  case headerCsum =>
    intro hv
    change be16At ((s.makePong b h).packet b) _ = headerCsum ((s.makePong b h).packet b) h
    rw [hpacket]
    exact be16At_filledIcmp_header hend hd hv
  case frame => exact fun g o ho hout => makePong_readByte ho hend (by omega) hout

end Sys2Proof.Machine

/-! ### BUILD_ECHO (42_header.md R187) -/

namespace Sys2Proof.Machine

/-! #### The packet of R200 -/

/-- The IP header of R200 for a message of `n` bytes, its checksum left 0. -/
def State.ipHeader (s : State) (p : Byte) (dst : AddrWords) (n : Nat) : List Byte :=
  match s.build.ipv with
  | .v4 => [0x45, 0x00] ++ bytes16n (20 + n) ++ [0x00, 0x00, 0x00, 0x00, cfgTtl s.regs.cfg, p, 0x00, 0x00] ++ s.hostBytes ++
      addrBytes s.build.ipv dst
  | .v6 => [0x60, 0x00, 0x00, 0x00] ++ bytes16n n ++ [p, cfgTtl s.regs.cfg] ++ s.hostBytes ++ addrBytes s.build.ipv dst

section
variable {s : State} {b : Handle} {p : Byte} {dst : AddrWords} {n : Nat} {msg msg' x y z d : List Byte}

theorem iph_v4 (hv : s.build.ipv = .v4) : s.build.iph = 20 := by rw [iph_eq, hv]; rfl

theorem iph_v6 (hv : s.build.ipv = .v6) : s.build.iph = 40 := by rw [iph_eq, hv]; rfl

theorem ipHeader_length : (s.ipHeader p dst n).length = s.build.iph := by
  rw [iph_eq]
  cases hv : s.build.ipv <;> simp [State.ipHeader, State.hostBytes, hv, addrBytes_length, bytes16n, bytes16, dstOff, alenOf]

theorem ipPacket_eq_append : s.ipPacket p dst msg = s.ipHeader p dst msg.length ++ msg := by
  cases hv : s.build.ipv <;>
    simp only [State.ipPacket, State.ipHeader, State.hostBytes, bytes16n, cfgTtl, hv, List.append_assoc]

theorem length_ipPacket : (s.ipPacket p dst msg).length = s.build.iph + msg.length := by
  rw [ipPacket_eq_append, List.length_append, ipHeader_length]

theorem patch_zero : patch d 0 x = x ++ d.drop x.length := by rw [patch, List.take_zero, List.nil_append, Nat.zero_add]

theorem patch_append_right (h : z.length = y.length) : patch (x ++ y) x.length z = x ++ z := by
  rw [patch, List.take_left, h, ← List.length_append, List.drop_length, List.append_nil]

/-- Another message of the same length under the same header. -/
theorem patch_ipPacket (h : msg'.length = msg.length) :
    patch (s.ipPacket p dst msg) s.build.iph msg' = s.ipPacket p dst msg' := by
  rw [ipPacket_eq_append, ipPacket_eq_append, h, ← ipHeader_length (s := s) (p := p) (dst := dst) (n := msg.length)]
  exact patch_append_right h

theorem headerCsum_ipPacket (hv : s.build.ipv = .v4) :
    headerCsum (s.ipPacket p dst msg) s.build.iph = csum (s.ipHeader p dst msg.length) := by
  have hzero : patch (s.ipHeader p dst msg.length) 10 [0, 0] = s.ipHeader p dst msg.length := by
    simp only [State.ipHeader, hv]
    rfl
  rw [headerCsum, ipPacket_eq_append, List.take_left' ipHeader_length, hzero]

/-! #### `BuildIP` -/

theorem buildIp_v4 (hv : s.build.ipv = .v4) :
    let t := s.writeBytes b 0 (s.ipHeader p dst n)
    s.buildIp b p n (addrBytes s.build.ipv dst) =
      (t.writeBytes b 10 (bytes16 (csum (t.readBytes b 0 20)))).setLength b (20 + n) := by
  simp only [State.buildIp, State.ipHeader, hv]

theorem buildIp_v6 (hv : s.build.ipv = .v6) :
    s.buildIp b p n (addrBytes s.build.ipv dst) = (s.writeBytes b 0 (s.ipHeader p dst n)).setLength b (40 + n) := by
  simp only [State.buildIp, State.ipHeader, hv]

section
variable (hb : b.toNat < s.bufs.length) (hn : s.build.iph + n < 65536)
include hb hn

theorem setLength_len : ((s.setLength b (s.build.iph + n)).buf b).len.toNat = s.build.iph + n := by
  rw [State.setLength, s.buf_setBuf_same b _ hb]
  exact Nat.mod_eq_of_lt hn

theorem setLength_packet : (s.setLength b (s.build.iph + n)).packet b = s.readBytes b 0 (s.build.iph + n) := by
  rw [State.packet, setLength_len hb hn]
  rfl

/-- `BuildIP` writes a header with its checksum before what the buffer holds there. -/
theorem buildIp_packet : (s.buildIp b p n (addrBytes s.build.ipv dst)).packet b =
    filledHeader s.build.ipv (s.ipPacket p dst (s.readBytes b s.build.iph n)) s.build.iph := by
  have hlen := setLength_len hb hn
  have hheader : (s.ipHeader p dst n).length = s.build.iph := ipHeader_length
  have hwritten : ((s.setLength b (s.build.iph + n)).writeBytes b 0 (s.ipHeader p dst n)).packet b =
      s.ipPacket p dst (s.readBytes b s.build.iph n) := by
    rw [packet_writeBytes (by omega), setLength_packet hb hn, patch_zero, drop_readBytes, ipPacket_eq_append, hheader,
      s.readBytes_length, Nat.zero_add, Nat.add_sub_cancel_left]
  rcases hv : s.build.ipv
  · have hiph : s.build.iph = 20 := iph_v4 hv
    have hread := readBytes_writeBytes_same (s := s) (b := b) (o := 0) (d := s.ipHeader p dst n) (by omega)
    have hcsum := headerCsum_ipPacket (p := p) (dst := dst) (msg := s.readBytes b s.build.iph n) hv
    have hfield : 10 + 2 ≤ ((s.setLength b (20 + n)).buf b).len.toNat := by rw [← hiph, hlen]; omega
    rw [hheader, hiph] at hread
    rw [s.readBytes_length] at hcsum
    rw [← hv, buildIp_v4 hv, hread, hv, filledHeader, hcsum, ← hwritten, hiph]
    exact packet_writeBytes (s := (s.setLength b (20 + n)).writeBytes b 0 (s.ipHeader p dst n)) hfield
  · have hiph : s.build.iph = 40 := iph_v6 hv
    rw [← hv, buildIp_v6 hv, hv, filledHeader, ← hwritten, hiph]
    rfl

end

theorem buildIp_sameDataBut (hn : s.build.iph + n ≤ 65536) :
    SameDataBut s (s.buildIp b p n (addrBytes s.build.ipv dst)) b 0 (s.build.iph + n) := by
  have hheader : (s.ipHeader p dst n).length = s.build.iph := ipHeader_length
  have hwritten : SameDataBut s (s.writeBytes b 0 (s.ipHeader p dst n)) b 0 (s.build.iph + n) :=
    (sameDataBut_writeBytes (by omega)).mono (Nat.le_refl 0) (by omega)
  rcases hv : s.build.ipv
  · have hiph : s.build.iph = 20 := iph_v4 hv
    rw [← hv, buildIp_v4 hv]
    exact hwritten.trans ((sameDataBut_writeBytes (d := bytes16 _) (show 10 + 2 ≤ 65536 by decide)).mono (Nat.zero_le _)
      (show 10 + 2 ≤ 0 + (s.build.iph + n) by omega))
  · rw [← hv, buildIp_v6 hv]
    exact hwritten

end

/-! #### The message -/

/-- The echo request message of R187, its checksum left 0. -/
def State.echoRequest (s : State) (seq : Half) : List Byte :=
  [echoRequestType s.build.ipv, 0x00, 0x00, 0x00] ++ bytes16 s.arg0Low ++ bytes16 seq ++ bytes32 s.regs.arg1

section
variable {s : State} {b : Handle} {seq : Half}

theorem echoRequest_length : (s.echoRequest seq).length = 12 := rfl

/-- The packet of R187, its checksums left 0. -/
def State.echoPacket (s : State) (seq : Half) : List Byte := s.ipPacket s.build.icmpProto s.regs.argaddr (s.echoRequest seq)

theorem echoPacket_length : (s.echoPacket seq).length = s.build.iph + 12 := length_ipPacket

/-- The writes of BUILD_ECHO but for the checksum of the message (R187). -/
def State.echoWrites (s : State) (b : Handle) (seq : Half) : State :=
  (s.buildIp b s.build.icmpProto 12 s.argaddrBytes).writeBytes b s.build.iph (s.echoRequest seq)

theorem buildEcho_eq_fill :
    s.buildEcho b seq = (s.echoWrites b seq).fillL4Csum b s.build.iph s.build.icmpProto 2 .icmp := rfl

theorem echoWrites_build : (s.echoWrites b seq).build = s.build := s.buildIp_build b _ _ _

theorem echoWrites_sniffMode : (s.echoWrites b seq).sniffMode = s.sniffMode := by
  have hregs : (s.echoWrites b seq).regs = s.regs := s.buildIp_regs b _ _ _
  rw [State.sniffMode, echoWrites_build, hregs, State.sniffMode]

theorem echo_fits : dstOff s.build.ipv + alenOf s.build.ipv ≤ s.build.iph ∧ s.build.iph + 4 ≤ (s.echoPacket seq).length := by
  rw [echoPacket_length, iph_eq]
  omega

theorem iph_ge : 20 ≤ s.build.iph := by
  rw [iph_eq]
  exact addresses_end_ge _

theorem buildEcho_sameDataBut (hn : s.build.iph + 12 ≤ 65536) : SameDataBut s (s.buildEcho b seq) b 0 (s.build.iph + 12) :=
  have hip := buildIp_sameDataBut (s := s) (b := b) (p := s.build.icmpProto) (dst := s.regs.argaddr) hn
  have hmsg := sameDataBut_writeBytes (s := s.buildIp b s.build.icmpProto 12 s.argaddrBytes) (b := b) (d := s.echoRequest seq) hn
  have hfill := fillIcmpCsum_sameDataBut (s := s.echoWrites b seq) (b := b) (h := s.build.iph) (p := s.build.icmpProto) (by omega)
  (hip.trans (hmsg.mono (Nat.zero_le _) (by rw [echoRequest_length]; omega))).trans (hfill.mono (Nat.zero_le _) (by omega))

theorem buildEcho_buf_ne {c : Handle} (hc : c ≠ b) : (s.buildEcho b seq).buf c = s.buf c :=
  (State.buf_congr (s := s.setLength b (s.build.iph + 12)) (s.buildEcho_bufs b seq) c).trans (s.buf_setBuf_ne _ hc)

variable (hb : b.toNat < s.bufs.length) (hn : s.build.iph + 12 < 65536)
include hb hn

omit hn in
theorem buildEcho_buf : (s.buildEcho b seq).buf b = { s.buf b with len := BitVec.ofNat 16 (s.build.iph + 12), chan := 0 } :=
  (State.buf_congr (s := s.setLength b (s.build.iph + 12)) (s.buildEcho_bufs b seq) b).trans (s.buf_setBuf_same b _ hb)

theorem echo_buildIp_len :
    ((s.buildIp b s.build.icmpProto 12 s.argaddrBytes).buf b).len.toNat = s.build.iph + 12 := by
  rw [State.buf_congr (s := s.setLength b (s.build.iph + 12)) (s.buildIp_bufs b _ _ _) b, setLength_len hb hn]

theorem echoWrites_packet :
    (s.echoWrites b seq).packet b = filledHeader s.build.ipv (s.echoPacket seq) s.build.iph := by
  have hge := iph_ge (s := s)
  have hrest : (s.readBytes b s.build.iph 12).length = (s.echoRequest seq).length := s.readBytes_length _ _ _
  have hip : (s.buildIp b s.build.icmpProto 12 s.argaddrBytes).packet b =
      filledHeader s.build.ipv (s.ipPacket s.build.icmpProto s.regs.argaddr (s.readBytes b s.build.iph 12)) s.build.iph :=
    buildIp_packet hb hn
  rw [State.echoWrites, packet_writeBytes (by rw [echo_buildIp_len hb hn, echoRequest_length]), hip, State.echoPacket,
    ← patch_ipPacket hrest.symm, filledHeader_patch (by rw [length_ipPacket, hrest]) (by omega) (Nat.le_refl _)]

/-- BUILD_ECHO writes the packet of R187 with its checksums. -/
theorem buildEcho_packet : (s.buildEcho b seq).packet b = filledIcmp s.sniffMode (s.echoPacket seq) s.build.iph := by
  obtain ⟨hend, hfits⟩ := echo_fits (s := s) (seq := seq)
  have hge := iph_ge (s := s)
  have hlen : s.build.iph + 4 ≤ ((s.echoWrites b seq).buf b).len.toNat := by
    change _ ≤ ((s.buildIp b s.build.icmpProto 12 s.argaddrBytes).buf b).len.toNat
    rw [echo_buildIp_len hb hn]
    omega
  have hfill := fillIcmpCsum_packet (s := s.echoWrites b seq) (by rwa [echoWrites_build]) hlen
  rw [echoWrites_build, echoWrites_sniffMode, echoWrites_packet hb hn] at hfill
  rw [buildEcho_eq_fill, hfill, filledIcmp,
    ← icmpCsum_filledHeader (m := s.sniffMode) (d := s.echoPacket seq) (by omega) (by omega)]
  rfl

end

/-! #### The statement -/

section
variable {s : State} {b : Handle} {seq : Half} {op err : Byte} {r0 r1 : Word}

theorem zeroed_echoPacket_v4 (hv : s.build.ipv = .v4) :
    patch (patch (s.echoPacket seq) 10 [0, 0]) 22 [0, 0] =
      [0x45, 0, 0, 32, 0, 0, 0, 0, s.regs.cfg.extractLsb' 0 8, 1, 0, 0] ++
        (addrBytes s.build.ipv s.regs.hostaddr ++ addrBytes s.build.ipv s.regs.argaddr) ++
        ([8, 0, 0, 0] ++ bytes16 (s.regs.arg0.extractLsb' 0 16) ++ bytes16 seq ++ bytes32 s.regs.arg1) := by
  have hlength : bytes16 (BitVec.ofNat 16 (20 + 12)) = [0, 32] := by decide
  simp only [State.echoPacket, State.ipPacket, echoRequest_length, hv]
  rw [hlength]
  simp only [State.echoRequest, Config.icmpProto, hv]
  rfl

theorem zeroed_echoPacket_v6 (hv : s.build.ipv = .v6) :
    patch (s.echoPacket seq) 42 [0, 0] =
      [0x60, 0, 0, 0, 0, 12, 58, s.regs.cfg.extractLsb' 0 8] ++
        (addrBytes s.build.ipv s.regs.hostaddr ++ addrBytes s.build.ipv s.regs.argaddr) ++
        ([128, 0, 0, 0] ++ bytes16 (s.regs.arg0.extractLsb' 0 16) ++ bytes16 seq ++ bytes32 s.regs.arg1) := by
  have hlength : bytes16 (BitVec.ofNat 16 12) = [0, 12] := by decide
  simp only [State.echoPacket, State.ipPacket, echoRequest_length, hv]
  rw [hlength]
  simp only [State.echoRequest, Config.icmpProto, hv]
  rfl

theorem buildEcho_frame :
    let t := (s.buildEcho b seq).finish op err r0 r1
    SameSetting s t ∧ t.chains = s.chains ∧ t.csa = s.csa ∧ t.slf = s.slf ∧ t.conns = s.conns := by
  simp [SameSetting]

theorem State.finish_packet (b : Handle) : (s.finish op err r0 r1).packet b = s.packet b := rfl

theorem sameDataBut_finish {t : State} {o n : Nat} (h : SameDataBut s t b o n) :
    SameDataBut s (t.finish op err r0 r1) b o n := h

theorem halfWord_ofNat {n : Nat} (hn : n < 65536) : halfWord (BitVec.ofNat 16 n) = BitVec.ofNat 32 n := by
  refine (ofNat_eq_of_toNat ?_).symm
  rw [halfWord, BitVec.toNat_append, BitVec.toNat_ofNat, BitVec.toNat_ofNat, Nat.mod_eq_of_lt hn]
  simp

end

/-- Settles O40: the packet left is `filledIcmp` of the request with its checksums 0. -/
theorem buildEchoWritesTheRequest : Obligations.BuildEchoWritesTheRequest := by
  rintro s b seq ⟨hvalid, hbufs, -⟩
  refine ⟨fun h => if_pos h, fun hb h => (check_passed hb).trans (if_pos h), fun hb hheld => ?_⟩
  refine (answers_done ?_).of_eq ((check_passed hb).trans (check_passed hheld))
  obtain ⟨-, ⟨hcap, hcap'⟩, -⟩ := hvalid
  have hlt : b.toNat < s.bufs.length := hbufs ▸ hb
  have hn : s.build.iph + 12 < 65536 := by omega
  obtain ⟨hend, hfits⟩ := echo_fits (s := s) (seq := seq)
  have hbuf := buildEcho_buf (seq := seq) hlt
  have hres : halfWord ((s.buildEcho b seq).buf b).len = BitVec.ofNat 32 (s.build.iph + 12) := by
    rw [hbuf]
    exact halfWord_ofNat hn
  have hpacket (err : Byte) (r0 r1 : Word) : ((s.buildEcho b seq).finish 0x32 err r0 r1).packet b = _ :=
    (State.finish_packet b).trans (buildEcho_packet hlt hn)
  obtain ⟨hsetting, hchains, hcsa, hslf, hconns⟩ := buildEcho_frame (s := s) (b := b) (seq := seq) (op := 0x32) (err := 0)
    (r0 := halfWord ((s.buildEcho b seq).buf b).len) (r1 := 0)
  refine ⟨?reports, (State.finish_buf b).trans hbuf, ?bufs, hchains, ?v4, ?v6, ?icmpCsum,
    sameDataBut_finish (buildEcho_sameDataBut hn.le), hsetting, hcsa, hslf, hconns⟩
  case reports =>
    rw [hres]
    exact reports_finish (s.buildEcho_regs b seq)
  case bufs => exact sameBufsBut_finish fun c hc => buildEcho_buf_ne hc
  case v4 =>
    intro hv
    have hiph : s.build.iph = 20 := iph_v4 hv
    have hzeroed := zeroed_filledIcmp_v4 (m := s.sniffMode) hend hfits hv
    have hcsum := be16At_filledIcmp_header (m := s.sniffMode) hend hfits hv
    rw [hpacket]
    rw [hiph] at hzeroed hcsum ⊢
    exact ⟨hzeroed.trans (zeroed_echoPacket_v4 hv), hcsum⟩
  case v6 =>
    intro hv
    have hiph : s.build.iph = 40 := iph_v6 hv
    have hzeroed := zeroed_filledIcmp_v6 (m := s.sniffMode) hfits hv
    rw [hpacket]
    rw [hiph] at hzeroed ⊢
    exact hzeroed.trans (zeroed_echoPacket_v6 hv)
  case icmpCsum =>
    rw [hpacket]
    exact be16At_filledIcmp_message hend hfits

end Sys2Proof.Machine

/-! ### A buffer's LOC where no chain is concerned

A holder register takes up a host-held buffer or gives its buffer back: LOC changes between HOLD and OFF, and every chain stays. -/

namespace Sys2Proof.Machine

section
variable {s t : State} {b : Handle} {loc : Loc} {op err : Byte} {r0 r1 : Word}

theorem State.setLoc_buf_same (hb : b.toNat < s.bufs.length) : (s.setLoc b loc).buf b = { s.buf b with loc := loc } :=
  s.buf_setBuf_same b _ hb

theorem State.setLoc_buf_ne {h : Handle} (hh : h ≠ b) : (s.setLoc b loc).buf h = s.buf h := s.buf_setBuf_ne _ hh

theorem State.setLoc_buf (hb : b.toNat < s.bufs.length) (h : Handle) :
    (s.setLoc b loc).buf h = { s.buf h with loc := if h = b then loc else (s.buf h).loc } := by
  by_cases hh : h = b
  · rw [hh, State.setLoc_buf_same hb, if_pos rfl]
  · rw [State.setLoc_buf_ne hh, if_neg hh]

/-- The chains' lists follow NEXT alone. -/
theorem State.setLoc_chainList (hb : b.toNat < s.bufs.length) (c : Nat) : (s.setLoc b loc).chainList c = s.chainList c := by
  have hwalk : ∀ fuel h, (s.setLoc b loc).walk fuel h = s.walk fuel h := by
    intro fuel
    induction fuel with
    | zero => exact fun _ => rfl
    | succ fuel ih => intro h; simp only [State.walk, ih, State.setLoc_buf hb]
  exact hwalk _ _

theorem ChainsSound.setLoc (hs : ChainsSound s) (hb : s.build.hasBuffer b) (hbefore : ∀ d, (s.buf b).loc ≠ .chain d)
    (hafter : ∀ d, loc ≠ .chain d) : ChainsSound (s.setLoc b loc) where
  nbuf_le := hs.nbuf_le
  bufs_length := (s.setBuf_bufs_length b _).trans hs.bufs_length
  chains_length := hs.chains_length
  holds c hc := by
    have hlen := hs.lt_bufs_length hb
    rw [State.setLoc_chainList hlen]
    refine (hs.holds c hc).congr rfl rfl (fun x _ => by rw [State.setLoc_buf hlen]) fun x => ?_
    by_cases hx : x = b
    · rw [hx, State.setLoc_buf_same hlen]
      exact iff_of_false (hafter c) (hbefore c)
    · rw [State.setLoc_buf_ne hx]

/-- R115 on a buffer that a holder gives back: with REF = 0 it is R111 on SPARE, and otherwise only LOC changes. -/
theorem releasedTo_setLoc_release (hs : ChainsSound s) (hb : s.build.hasBuffer b) (hfree : ∀ d, (s.buf b).loc ≠ .chain d) :
    ReleasedTo s ((s.setLoc b .off).release b).2 b := by
  have hspare : SPARE < 3 + s.build.nchan := Nat.add_pos_left (by decide) _
  have hlen := hs.lt_bufs_length hb
  have hbuf : (s.setLoc b .off).buf b = { s.buf b with loc := .off } := State.setLoc_buf_same hlen
  have href : ((s.setLoc b .off).buf b).ref = (s.buf b).ref := by rw [hbuf]
  rcases (s.setLoc b .off).release_cases b with ⟨h0, hrelease⟩ | ⟨h0, hrelease⟩
  · have hoff : ChainsSound (s.setLoc b .off) := hs.setLoc hb hfree (by simp)
    have he := hoff.pushHead_edit hspare hb (by simp [hbuf])
    rw [hrelease]
    refine ⟨fun x hx => ?frame, fun _ => ⟨?spare, fun d hd => ?others, ?buf⟩, fun h => absurd (href ▸ h0) h⟩
    case frame => rw [State.pushHead_buf_ne _ _ hx, State.setLoc_buf_ne hx]
    case spare => rw [he.chainList_same hoff, State.setLoc_chainList hlen]
    case others => rw [he.chainList_ne hoff (mt List.mem_singleton.2 hd), State.setLoc_chainList hlen]
    case buf => rw [State.pushHead_buf_same _ _ _ (hoff.lt_bufs_length hb), hbuf]; rfl
  · rw [hrelease]
    exact ⟨fun x hx => State.setLoc_buf_ne hx, fun h => absurd (href.trans h) h0, fun _ => ⟨rfl, hbuf⟩⟩

theorem State.release_poolEdit (s : State) (b : Handle) : PoolEdit s (s.release b).2 := by
  rcases s.release_cases b with ⟨-, hrelease⟩ | ⟨-, hrelease⟩
  · exact hrelease ▸ s.pushHead_poolEdit SPARE b
  · exact hrelease ▸ PoolEdit.refl s

theorem ReleasedTo.finish (h : ReleasedTo s t b) : ReleasedTo s (t.finish op err r0 r1) b := by
  obtain ⟨hframe, hspare, hheld⟩ := h
  refine ⟨sameBufsBut_finish hframe, fun href => ?_, hheld⟩
  obtain ⟨hlist, hothers, hbuf⟩ := hspare href
  exact ⟨(t.finish_chainList _).trans hlist, sameChainsBut_finish hothers, hbuf⟩

end

end Sys2Proof.Machine

/-! ### The registers of a SLIP channel (10_state.md R40, R41) -/

namespace Sys2Proof.Machine

section
variable {s : State} {c : Nat} {f : SlipChan → SlipChan} {op : Byte} {r : Word}

theorem slip_index_lt (hs : s.shaped) {c : Byte} (hc : s.build.hasChannel c) : c.toNat - 1 < s.slf.length := by
  obtain ⟨-, -, -, hslf, -⟩ := hs
  obtain ⟨hpos, hle⟩ := hc
  omega

theorem slip_mem (hi : c - 1 < s.slf.length) : s.slip c ∈ s.slf := by
  rw [State.slip, List.getD_eq_getElem _ _ hi]
  exact List.getElem_mem hi

theorem txcur_eq_none_iff (hs : s.fieldsOk) (hi : c - 1 < s.slf.length) :
    (s.slip c).txcur = NONE ↔ (s.slip c).txph = .idle := by
  obtain ⟨-, hphase, -⟩ := hs
  exact hphase _ (slip_mem hi)

/-- Item 3 of R33 for TXCUR. -/
theorem txcur_held (hs : s.holdersOk) (hi : c - 1 < s.slf.length) (h : (s.slip c).txcur ≠ NONE) :
    s.build.hasBuffer (s.slip c).txcur ∧ (s.buf (s.slip c).txcur).loc = .hold := by
  obtain ⟨-, hhas, hmem⟩ := hs
  have hheld : (s.slip c).txcur ∈ s.holders := by
    simp only [State.holders, List.mem_filter, List.mem_append, List.mem_map, decide_eq_true_eq]
    exact ⟨.inl (.inr ⟨_, slip_mem hi, rfl⟩), h⟩
  exact ⟨hhas _ hheld, (hmem _ (hhas _ hheld)).1 hheld⟩

/-- An update of channel `c` replaces its registers in the list of channels. -/
theorem slf_split (hi : c - 1 < s.slf.length) (f : SlipChan → SlipChan) :
    ∃ l m, s.slf = l ++ s.slip c :: m ∧ (s.setSlip c f).slf = l ++ f (s.slip c) :: m := by
  rw [State.slip, List.getD_eq_getElem _ _ hi]
  exact ⟨_, _, by simp, List.modify_eq_take_cons_drop hi⟩

theorem sameSlipBut_setSlip (hc : 1 ≤ c) : SameSlipBut s (s.setSlip c f) c := fun _ hd hne => s.slip_setSlip_ne f hc hd hne

@[simp] theorem State.setSlip_buf (b : Handle) : (s.setSlip c f).buf b = s.buf b := rfl

@[simp] theorem State.setSlip_chain (d : Nat) : (s.setSlip c f).chain d = s.chain d := rfl

@[simp] theorem State.setSlip_chainList (d : Nat) : (s.setSlip c f).chainList d = s.chainList d :=
  State.chainList_congr (s := s) (t := s.setSlip c f) rfl rfl rfl d

theorem ChainsSound.setSlip (hs : ChainsSound s) : ChainsSound (s.setSlip c f) where
  nbuf_le := hs.nbuf_le
  bufs_length := hs.bufs_length
  chains_length := hs.chains_length
  holds d hd := by
    rw [State.setSlip_chainList]
    exact (hs.holds d hd).congr rfl rfl (fun _ _ => rfl) fun _ => Iff.rfl

theorem ReleasedTo.of_setSlip {t : State} {b : Handle} (h : ReleasedTo (s.setSlip c f) t b) : ReleasedTo s t b := by
  simpa only [ReleasedTo, SameBufsBut, SameChainsBut, State.setSlip_buf, State.setSlip_chain, State.setSlip_chainList,
    State.setSlip_chains] using h

/-- A command that updates the registers of channel `c` and changes nothing else. -/
theorem answers_setSlip (hc : 1 ≤ c) (hi : c - 1 < s.slf.length) :
    Answers ((s.setSlip c f).done op r 0) fun t =>
      Reports s t op r 0 ∧ t.slip c = f (s.slip c) ∧ SameSlipBut s t c ∧ SamePool s t ∧ SameData s t ∧ SameSetting s t ∧
        t.csa = s.csa ∧ t.conns = s.conns :=
  answers_done ⟨reports_finish rfl, s.slip_setSlip_same c f hi, sameSlipBut_setSlip hc, ⟨rfl, rfl⟩, fun _ _ => rfl,
    ⟨rfl, rfl, rfl, rfl⟩, rfl, rfl⟩

end

/-! #### A frame taken into TXCUR (R225) -/

/-- `s` with buffer `b` in TXCUR of channel `c`, to be sent from its first byte in phase `ph`. -/
def State.loadTx (s : State) (c : Nat) (b : Handle) (ph : TxPhase) : State :=
  (s.setSlip c fun z => { z with txcur := b, txpos := 0, txph := ph }).setLoc b .hold

section
variable {s : State} {c : Nat} {b : Handle} {ph : TxPhase}

theorem State.loadTx_buf (hb : b.toNat < s.bufs.length) (h : Handle) :
    (s.loadTx c b ph).buf h = { s.buf h with loc := if h = b then .hold else (s.buf h).loc } :=
  State.setLoc_buf (s := s.setSlip c _) hb h

theorem State.loadTx_chainList (hb : b.toNat < s.bufs.length) (d : Nat) : (s.loadTx c b ph).chainList d = s.chainList d :=
  (State.setLoc_chainList (s := s.setSlip c _) hb d).trans (State.setSlip_chainList d)

theorem State.loadTx_slip_same (hi : c - 1 < s.slf.length) :
    (s.loadTx c b ph).slip c = { s.slip c with txcur := b, txpos := 0, txph := ph } := s.slip_setSlip_same c _ hi

theorem sameSlipBut_loadTx (hc : 1 ≤ c) : SameSlipBut s (s.loadTx c b ph) c := sameSlipBut_setSlip hc

theorem filter_ne_none_perm {l m : List Handle} (hb : b ≠ NONE) :
    ((l ++ b :: m).filter (· ≠ NONE)).Perm (b :: (l ++ NONE :: m).filter (· ≠ NONE)) := by
  simp only [List.filter_append, List.filter_cons, hb, ne_eq, not_false_eq_true, not_true_eq_false, decide_true, decide_false,
    if_true, Bool.false_eq_true, if_false]
  exact List.perm_middle

/-- The holder registers then name what they named before, and the loaded buffer. -/
theorem holders_loadTx (hi : c - 1 < s.slf.length) (hidle : (s.slip c).txcur = NONE) (hb : b ≠ NONE) :
    (s.loadTx c b ph).holders.Perm (b :: s.holders) := by
  obtain ⟨l, m, hslf, hset⟩ := slf_split hi fun z => { z with txcur := b, txpos := 0, txph := ph }
  have hsplit (x : Handle) : s.slf.map (·.rxbuf) ++ (l.map (·.txcur) ++ x :: m.map (·.txcur)) ++ s.conns.map (·.staged) =
      (s.slf.map (·.rxbuf) ++ l.map (·.txcur)) ++ x :: (m.map (·.txcur) ++ s.conns.map (·.staged)) := by simp
  have hold : s.slf.map (·.txcur) = l.map (·.txcur) ++ NONE :: m.map (·.txcur) := by
    rw [hslf, List.map_append, List.map_cons, hidle]
  have hnew : (s.loadTx c b ph).slf.map (·.txcur) = l.map (·.txcur) ++ b :: m.map (·.txcur) := by
    rw [State.loadTx, State.setLoc_slf, hset, List.map_append, List.map_cons]
  have hrx : (s.loadTx c b ph).slf.map (·.rxbuf) = s.slf.map (·.rxbuf) := by
    rw [State.loadTx, State.setLoc_slf, hset, hslf, List.map_append, List.map_append, List.map_cons, List.map_cons]
  have hconns : (s.loadTx c b ph).conns = s.conns := rfl
  rw [State.holders, State.holders, hnew, hrx, hconns, hold, hsplit, hsplit]
  exact filter_ne_none_perm hb

theorem loadTx_fieldsOk (hs : s.fieldsOk) (hi : c - 1 < s.slf.length) (hlt : b.toNat < s.bufs.length)
    (hmax : s.bufs.length ≤ 256) (hb : b ≠ NONE) (hph : ph ≠ .idle) : (s.loadTx c b ph).fieldsOk := by
  obtain ⟨hlens, hphase, hrest⟩ := hs
  refine ⟨?lens, ?phase, hrest⟩
  case lens =>
    have hlength : (s.loadTx c b ph).bufs.length = s.bufs.length := State.setBuf_bufs_length _ _ _
    rw [forall_mem_bufs_iff hmax] at hlens
    rw [forall_mem_bufs_iff (hlength ▸ hmax), hlength]
    intro h hh
    rw [State.loadTx_buf hlt]
    exact hlens h hh
  case phase =>
    obtain ⟨l, m, hslf, hset⟩ := slf_split hi fun z => { z with txcur := b, txpos := 0, txph := ph }
    rw [hslf] at hphase
    rw [State.loadTx, State.setLoc_slf, hset]
    intro x hx
    rcases List.mem_append.1 hx with hx | hx
    · exact hphase x (List.mem_append_left _ hx)
    · rcases List.mem_cons.1 hx with rfl | hx
      · exact iff_of_false hb hph
      · exact hphase x (List.mem_append_right _ (List.mem_cons_of_mem _ hx))

/-- A channel that sends nothing can take a host-held buffer. -/
theorem loadTx_sound (hs : s.sound) (hi : c - 1 < s.slf.length) (hidle : (s.slip c).txcur = NONE) (hb : s.build.hasBuffer b)
    (hheld : s.hostHeld b) (hph : ph ≠ .idle) : (s.loadTx c b ph).sound := by
  have hchains := chainsSound_of_sound hs
  have hnone := hchains.ne_none hb
  have hlt := hchains.lt_bufs_length hb
  have hbuf := State.loadTx_buf (c := c) (ph := ph) hlt
  have hperm := holders_loadTx (ph := ph) hi hidle hnone
  obtain ⟨⟨hvalid, hbufs, hchainsLen, hslf, hconns⟩, hfields, -, ⟨hnodup, hhas, hmem⟩, hbuffers, hretx, hstaged⟩ := hs
  have hnotMem : b ∉ s.holders := fun h => absurd (((hmem b hb).1 h).symm.trans hheld) (by simp)
  refine ⟨⟨hvalid, (State.setBuf_bufs_length _ _ _).trans hbufs, hchainsLen, (State.setSlip_slf_length _ _ _).trans hslf,
      hconns⟩,
    loadTx_fieldsOk hfields hi hlt (hbufs ▸ hvalid.1.2.trans (by decide)) hnone hph,
    ?chains, ⟨hperm.nodup_iff.2 (List.nodup_cons.2 ⟨hnotMem, hnodup⟩), ?has, ?mem⟩, ?buffers, hretx, ?staged⟩
  case chains =>
    have hloaded : ChainsSound (s.loadTx c b ph) :=
      hchains.setSlip.setLoc hb (hostHeld_free hheld) (by simp)
    exact fun d hd => holdsChain_iff.2 (hloaded.holds d hd)
  case has =>
    intro h hh
    rcases List.mem_cons.1 (hperm.mem_iff.1 hh) with rfl | hh
    · exact hb
    · exact hhas h hh
  case mem =>
    intro h hh
    rw [hperm.mem_iff, List.mem_cons, hbuf, hmem h hh]
    by_cases hhb : h = b <;> simp [hhb]
  case buffers =>
    intro h hh
    obtain ⟨hknown, hnext, href⟩ := hbuffers h hh
    by_cases hhb : h = b
    · subst hhb
      simp [State.bufferOk, hbuf, Loc.known, hnext (.inr hheld)]
    · rw [State.bufferOk, hbuf, if_neg hhb]
      exact ⟨hknown, hnext, href⟩
  case staged =>
    intro x hx hxnone
    rw [hbuf]
    exact hstaged x hx hxnone

end

/-! ### SLIP_TX (43_slip.md R225 to R227) -/

/-! #### The byte sent in each phase -/

section
variable {s : State} {c : Byte} {b : Handle}

theorem slipOut_eq_ofNat (x : Byte) : slipOut x = BitVec.ofNat 32 (0x100 + x.toNat) :=
  (ofNat_eq_of_toNat ((toNat_append_byte (0#23 ++ 1#1) x).trans (by simp))).symm

theorem slipTxStep_lead (h : (s.slip c.toNat).txph = .lead) :
    slipTxStep c s = (s.setSlip c.toNat fun z => { z with txph := .data }).done 0x41 0x1C0 0 := by
  simp only [slipTxStep, h]
  rfl

theorem slipTxStep_escDc (h : (s.slip c.toNat).txph = .escDc) :
    slipTxStep c s = (s.setSlip c.toNat fun z => { z with txpos := z.txpos + 1, txph := .data }).done 0x41 0x1DC 0 := by
  simp only [slipTxStep, h]
  rfl

theorem slipTxStep_escDd (h : (s.slip c.toNat).txph = .escDd) :
    slipTxStep c s = (s.setSlip c.toNat fun z => { z with txpos := z.txpos + 1, txph := .data }).done 0x41 0x1DD 0 := by
  simp only [slipTxStep, h]
  rfl

theorem slipTxStep_data (h : (s.slip c.toNat).txph = .data) : slipTxStep c s = slipTxData c (s.slip c.toNat).txcur s := by
  simp only [slipTxStep, h]

theorem slipTxData_end (hpos : (s.slip c.toNat).txpos ≠ (s.buf b).len)
    (hx : s.readByte b (s.slip c.toNat).txpos.toNat = 0xC0) :
    slipTxData c b s = (s.setSlip c.toNat fun z => { z with txph := .escDc }).done 0x41 0x1DB 0 :=
  (if_neg hpos).trans (if_pos hx)

theorem slipTxData_esc (hpos : (s.slip c.toNat).txpos ≠ (s.buf b).len)
    (hx : s.readByte b (s.slip c.toNat).txpos.toNat = 0xDB) :
    slipTxData c b s = (s.setSlip c.toNat fun z => { z with txph := .escDd }).done 0x41 0x1DB 0 :=
  (if_neg hpos).trans ((if_neg (by rw [hx]; decide)).trans (if_pos hx))

theorem slipTxData_plain (hpos : (s.slip c.toNat).txpos ≠ (s.buf b).len)
    (hend : s.readByte b (s.slip c.toNat).txpos.toNat ≠ 0xC0) (hesc : s.readByte b (s.slip c.toNat).txpos.toNat ≠ 0xDB) :
    slipTxData c b s = (s.setSlip c.toNat fun z => { z with txpos := z.txpos + 1 }).done 0x41
      (BitVec.ofNat 32 (0x100 + (s.readByte b (s.slip c.toNat).txpos.toNat).toNat)) 0 := by
  rw [← slipOut_eq_ofNat]
  exact (if_neg hpos).trans ((if_neg hend).trans (if_neg hesc))

theorem slipTxData_last (hpos : (s.slip c.toNat).txpos = (s.buf b).len) :
    slipTxData c b s =
      (((s.setSlip c.toNat fun z => { z with txcur := NONE, txpos := 0, txph := .idle }).setLoc b .off).release b).2.done
        0x41 0x3C0 0 := if_pos hpos

end

/-! #### The command -/

section
variable {s : State} {c : Byte} {b : Handle} {l : List Handle}

theorem exec_slipTx_sending (hc : s.build.hasChannel c) (h : (s.slip c.toNat).txcur ≠ NONE) :
    exec (.slipTx c) s = slipTxStep c s := (check_passed hc).trans (if_neg h)

/-- In every phase but IDLE the channel has a buffer to send from. -/
theorem exec_slipTx_of_phase (hs : s.sound) (hc : s.build.hasChannel c) (h : (s.slip c.toNat).txph ≠ .idle) :
    exec (.slipTx c) s = slipTxStep c s := by
  obtain ⟨hshaped, hfields, -⟩ := hs
  exact exec_slipTx_sending hc (mt (txcur_eq_none_iff hfields (slip_index_lt hshaped hc)).1 h)

theorem txChain_lt (hc : s.build.hasChannel c) : 2 + c.toNat < 3 + s.build.nchan := by
  obtain ⟨-, hle⟩ := hc
  omega

theorem exec_slipTx_nothing (hs : ChainsSound s) (hc : s.build.hasChannel c) (hidle : (s.slip c.toNat).txcur = NONE)
    (h : s.chainList (2 + c.toNat) = []) : exec (.slipTx c) s = s.done 0x41 0 0 := by
  refine (check_passed hc).trans ((if_pos hidle).trans (if_pos ?_))
  rw [txChain, hs.popHead_nil (txChain_lt hc) h]

/-- The phase in which a frame starts (R225): LEAD with CFG.LEAD, else DATA. -/
def startPhase (s : State) : TxPhase := if s.regs.cfg.getLsbD 12 then .lead else .data

theorem startPhase_ne_idle : startPhase s ≠ .idle := by
  unfold startPhase
  split <;> simp

theorem exec_slipTx_load (hs : ChainsSound s) (hc : s.build.hasChannel c) (hidle : (s.slip c.toNat).txcur = NONE)
    (h : s.chainList (2 + c.toNat) = b :: l) :
    exec (.slipTx c) s = slipTxStep c ((s.unlink (2 + c.toNat) NONE b).loadTx c.toNat b (startPhase s)) := by
  have hpop : s.popHead (txChain c.toNat) = (b, s.unlink (2 + c.toNat) NONE b) := hs.popHead_cons (txChain_lt hc) h
  have hb : b ≠ NONE := hs.ne_none ((hs.holds _ (txChain_lt hc)).hasBuffer b (h ▸ List.mem_cons_self))
  refine (check_passed hc).trans ((if_pos hidle).trans ?_)
  rw [hpop]
  exact if_neg hb

/-- The final END (R225): an update of the channel that gives up buffer `b`, and R115. -/
theorem answers_setSlip_release {f : SlipChan → SlipChan} {op : Byte} {r : Word} (hs : ChainsSound s)
    (hc : s.build.hasChannel c) (hi : c.toNat - 1 < s.slf.length) (hb : s.build.hasBuffer b) (hhold : (s.buf b).loc = .hold) :
    Answers ((((s.setSlip c.toNat f).setLoc b .off).release b).2.done op r 0) fun t =>
      Reports s t op r 0 ∧ t.slip c.toNat = f (s.slip c.toNat) ∧ SameSlipBut s t c.toNat ∧ ReleasedTo s t b ∧
        SameData s t ∧ SameSetting s t ∧ t.csa = s.csa ∧ t.conns = s.conns := by
  have hreleased : ReleasedTo (s.setSlip c.toNat f) (((s.setSlip c.toNat f).setLoc b .off).release b).2 b :=
    releasedTo_setLoc_release hs.setSlip hb (by simp [hhold])
  have hpool : PoolEdit (s.setSlip c.toNat f) (((s.setSlip c.toNat f).setLoc b .off).release b).2 :=
    ((PoolEdit.refl _).setBuf b _).trans (State.release_poolEdit _ b)
  generalize (((s.setSlip c.toNat f).setLoc b .off).release b).2 = t at hreleased hpool ⊢
  obtain ⟨hsetting, hdata, hcsa, hslf, hconns⟩ := hpool.onlyPool
  refine answers_done ⟨reports_finish hpool.regs, ?slip, ?others, hreleased.of_setSlip.finish, hdata, hsetting, hcsa,
    hconns⟩
  case slip => exact (State.slip_congr hslf _).trans (s.slip_setSlip_same _ f hi)
  case others => exact fun d hd hne => (State.slip_congr hslf d).trans (sameSlipBut_setSlip hc.1 d hd hne)

/-- What loading the head of TX(c) does (R225): the edit of TX(c) by R112, and TXCUR takes the buffer. -/
theorem loadTx_unlink (hsound : s.sound) (hc : s.build.hasChannel c) (hidle : (s.slip c.toNat).txcur = NONE)
    (h : s.chainList (2 + c.toNat) = b :: l) {ph : TxPhase} (hph : ph ≠ .idle) :
    let u := (s.unlink (2 + c.toNat) NONE b).loadTx c.toNat b ph
    u.sound ∧ u.regs = s.regs ∧ u.slip c.toNat = { s.slip c.toNat with txcur := b, txpos := 0, txph := ph } ∧
      SameSlipBut s u c.toNat ∧ u.chainList (2 + c.toNat) = l ∧ SameChainsBut s u [2 + c.toNat] ∧
      u.buf b = { s.buf b with next := NONE, loc := .hold } ∧ SameBufsBut s u b ∧ SameData s u ∧ SameSetting s u ∧
      u.csa = s.csa ∧ u.conns = s.conns := by
  have hs := chainsSound_of_sound hsound
  have hold := h ▸ hs.holds _ (txChain_lt hc)
  have hb := hold.hasBuffer b List.mem_cons_self
  have hloc : (s.buf b).loc = .chain (2 + c.toNat) := hold.loc_eq List.mem_cons_self
  obtain ⟨he, hbuf, hframe⟩ := hs.unlink_head_edit (txChain_lt hc) h
  generalize s.unlink (2 + c.toNat) NONE b = v at he hbuf hframe ⊢
  have hvsound : v.sound := he.sound_of_off hsound hb (by simp [hloc]) hbuf
  have hvb : v.build.hasBuffer b := he.pool.build ▸ hb
  have hlt : b.toNat < v.bufs.length := (he.chainsSound hs).lt_bufs_length hvb
  have hi : c.toNat - 1 < v.slf.length := slip_index_lt hvsound.1 (he.pool.build ▸ hc)
  have hslip (d : Nat) : v.slip d = s.slip d := State.slip_congr he.pool.slf d
  have hlist (d : Nat) : (v.loadTx c.toNat b ph).chainList d = v.chainList d := State.loadTx_chainList hlt d
  obtain ⟨hsetting, hdata, hcsa, -, hconns⟩ := he.pool.onlyPool
  refine ⟨loadTx_sound hvsound hi ((hslip _).symm ▸ hidle) hvb (by rw [State.hostHeld, hbuf]) hph, he.pool.regs, ?slip,
    ?channels, (hlist _).trans (he.chainList_same hs), fun d hd => (hlist d).trans (he.sameChainsBut hs d hd), ?buf,
    fun x hx => ?frame, hdata, hsetting, hcsa, hconns⟩
  case slip => rw [State.loadTx_slip_same hi, hslip]
  case channels => exact fun d hd hne => (sameSlipBut_loadTx hc.1 d hd hne).trans (hslip d)
  case buf => rw [State.loadTx_buf hlt, hbuf, if_pos rfl]
  case frame => rw [State.loadTx_buf hlt, if_neg hx, hframe x hx]

end

/-- Settles O43: TXPH decides what a step sends.  The head of TX(c) is unlinked and then held by TXCUR, which leaves a sound state
whose own SLIP_TX is the same step. -/
theorem slipTxGivesTheNextByte : Obligations.SlipTxGivesTheNextByte := by
  intro s c hsound
  refine ⟨fun h => if_pos h, fun hc => ?_⟩
  intro z b len x sends
  have hs := chainsSound_of_sound hsound
  have hi := slip_index_lt hsound.1 hc
  have hphase (h : z.txph ≠ .idle) : exec (.slipTx c) s = slipTxStep c s := exec_slipTx_of_phase hsound hc h
  have hdata (h : z.txph = .data) : exec (.slipTx c) s = slipTxData c b s :=
    (hphase (by simp [h])).trans (slipTxStep_data h)
  have hsends {r : Word} {f : SlipChan → SlipChan} (h : exec (.slipTx c) s = (s.setSlip c.toNat f).done 0x41 r 0) :
      sends r (f z) := (answers_setSlip hc.1 hi).of_eq h
  refine ⟨?nothing, ?load, ?lead, ?escDc, ?escDd, ?dataEnd, ?dataEsc, ?dataPlain, ?last⟩
  case nothing => exact fun hidle h => answers_report.of_eq (exec_slipTx_nothing hs hc hidle h)
  case load =>
    intro hidle f l h
    obtain ⟨husound, huregs, huslip, hrest⟩ := loadTx_unlink hsound hc hidle h (startPhase_ne_idle (s := s))
    have hstep := exec_slipTx_load hs hc hidle h
    generalize (s.unlink (2 + c.toNat) NONE f).loadTx c.toNat f (startPhase s) = u at husound huregs huslip hrest hstep
    have hubuild : u.build = s.build := by
      obtain ⟨-, -, -, -, -, -, hsetting, -⟩ := hrest
      exact hsetting.1
    have hsame : exec (.slipTx c) u = slipTxStep c u :=
      exec_slipTx_of_phase husound (hubuild ▸ hc) (by rw [huslip]; exact startPhase_ne_idle)
    exact ⟨u, hstep.trans hsame.symm, husound, huregs, huslip, hrest⟩
  case lead => exact fun h => hsends ((hphase (by simp [h])).trans (slipTxStep_lead h))
  case escDc => exact fun h => hsends ((hphase (by simp [h])).trans (slipTxStep_escDc h))
  case escDd => exact fun h => hsends ((hphase (by simp [h])).trans (slipTxStep_escDd h))
  case dataEnd => exact fun h hpos hx => hsends ((hdata h).trans (slipTxData_end hpos hx))
  case dataEsc => exact fun h hpos hx => hsends ((hdata h).trans (slipTxData_esc hpos hx))
  case dataPlain => exact fun h hpos hend hesc => hsends ((hdata h).trans (slipTxData_plain hpos hend hesc))
  case last =>
    intro h hpos
    obtain ⟨-, hfields, -, hholders, -⟩ := hsound
    have hiff : z.txcur = NONE ↔ z.txph = .idle := txcur_eq_none_iff hfields hi
    have hcur : z.txcur ≠ NONE := mt hiff.1 (by simp [h])
    obtain ⟨hb, hhold⟩ := txcur_held hholders hi hcur
    exact (answers_setSlip_release hs hc hi hb hhold).of_eq ((hdata h).trans (slipTxData_last hpos))

end Sys2Proof.Machine

/-! ### Connection slots (44_connection.md R241 to R280)

A command on a slot checks its operands and its slot's state, gives buffers back where its rule says so, and updates the record of its
slot.  Nothing else of the state moves (`SlotEdit`). -/

namespace Sys2Proof.Machine

/-! #### The record of a slot -/

section
variable {s t u : State} {k : Nat} {f : Conn → Conn}

theorem conn_index_lt (hs : s.shaped) {k : Byte} (hk : s.build.hasSlot k) : k.toNat < s.conns.length := by
  obtain ⟨-, -, -, -, hconns⟩ := hs
  exact hconns ▸ hk

theorem conn_mem (hk : k < s.conns.length) : s.conn k ∈ s.conns := by
  rw [State.conn, List.getD_eq_getElem _ _ hk]
  exact List.getElem_mem hk

/-- Item 3 of R33 for STAGED. -/
theorem staged_held (hs : s.sound) (hk : k < s.conns.length) (h : (s.conn k).staged ≠ NONE) :
    s.build.hasBuffer (s.conn k).staged ∧ (s.buf (s.conn k).staged).loc = .hold := by
  obtain ⟨-, -, -, ⟨-, hhas, hmem⟩, -⟩ := hs
  have hheld : (s.conn k).staged ∈ s.holders := by
    simp only [State.holders, List.mem_filter, List.mem_append, List.mem_map, decide_eq_true_eq]
    exact ⟨.inr ⟨_, conn_mem hk, rfl⟩, h⟩
  exact ⟨hhas _ hheld, (hmem _ (hhas _ hheld)).1 hheld⟩

theorem retx_hasBuffer (hs : s.sound) (hk : k < s.conns.length) (h : (s.conn k).retx ≠ NONE) :
    s.build.hasBuffer (s.conn k).retx := by
  obtain ⟨-, -, -, -, -, hretx, -⟩ := hs
  exact (hretx _ (conn_mem hk)).resolve_left h

@[simp] theorem State.finish_conn (op err : Byte) (r0 r1 : Word) (k : Nat) : (s.finish op err r0 r1).conn k = s.conn k := rfl

theorem State.setConn_id (s : State) (k : Nat) : s.setConn k id = s := by simp [State.setConn]

/-- A command that updates the record of slot `k` and changes nothing else. -/
theorem answers_setConn (hk : k < s.conns.length) {op : Byte} {r : Word} :
    Answers ((s.setConn k f).done op r 0) fun t => Reports s t op r 0 ∧ t.conn k = f (s.conn k) ∧ OnlySlot s t k :=
  answers_done ⟨reports_finish rfl, s.conn_setConn_same k f hk, ⟨rfl, rfl, rfl, rfl⟩, ⟨rfl, rfl⟩, fun _ _ => rfl, rfl, rfl,
    fun _ hj => s.conn_setConn_ne f hj⟩

/-- Besides the host registers, the pool and the record of slot `k`, `t` is as `s`. -/
structure SlotEdit (s t : State) (k : Nat) : Prop where
  setting : SameSetting s t
  data : SameData s t
  csa : t.csa = s.csa
  slf : t.slf = s.slf
  conns_length : t.conns.length = s.conns.length
  others : SameConnsBut s t k

theorem PoolEdit.slotEdit (h : PoolEdit s t) : SlotEdit s t k := by
  obtain ⟨hsetting, hdata, hcsa, hslf, hconns⟩ := h.onlyPool
  exact ⟨hsetting, hdata, hcsa, hslf, by rw [hconns], fun j _ => State.conn_congr hconns j⟩

theorem SlotEdit.trans (h : SlotEdit s t k) (h' : SlotEdit t u k) : SlotEdit s u k where
  setting := by
    obtain ⟨hbuild, hdraw, hinput, hread⟩ := h.setting
    obtain ⟨hbuild', hdraw', hinput', hread'⟩ := h'.setting
    exact ⟨hbuild'.trans hbuild, hdraw'.trans hdraw, hinput'.trans hinput, hread'.trans hread⟩
  data b o := (h'.data b o).trans (h.data b o)
  csa := h'.csa.trans h.csa
  slf := h'.slf.trans h.slf
  conns_length := h'.conns_length.trans h.conns_length
  others j hj := (h'.others j hj).trans (h.others j hj)

theorem SlotEdit.setConn (h : SlotEdit s t k) (f : Conn → Conn) : SlotEdit s (t.setConn k f) k :=
  h.trans ⟨⟨rfl, rfl, rfl, rfl⟩, fun _ _ => rfl, rfl, rfl, t.setConn_conns_length k f,
    fun _ hj => t.conn_setConn_ne f hj⟩

theorem SlotEdit.finish (h : SlotEdit s t k) {op err : Byte} {r0 r1 : Word} : SlotEdit s (t.finish op err r0 r1) k :=
  h.trans ⟨⟨rfl, rfl, rfl, rfl⟩, fun _ _ => rfl, rfl, rfl, rfl, fun _ _ => rfl⟩

end

/-! #### The pool's claims look at records, links and chains only -/

section
variable {s t u : State} {b : Handle}

/-- The chains' lists follow NEXT alone. -/
theorem State.chainList_congr_next (hbuild : t.build = s.build) (hnext : ∀ h, (t.buf h).next = (s.buf h).next)
    (hchains : t.chains = s.chains) (c : Nat) : t.chainList c = s.chainList c := by
  have hwalk : ∀ fuel h, t.walk fuel h = s.walk fuel h := by
    intro fuel
    induction fuel with
    | zero => exact fun _ => rfl
    | succ fuel ih => intro h; simp only [State.walk, ih, hnext]
  rw [State.chainList, State.chainList, hbuild, State.chain_congr hchains, hwalk]

theorem ChainsSound.congr (hs : ChainsSound s) (hbuild : t.build = s.build) (hlength : t.bufs.length = s.bufs.length)
    (hchains : t.chains = s.chains) (hnext : ∀ h, (t.buf h).next = (s.buf h).next)
    (hloc : ∀ h, (t.buf h).loc = (s.buf h).loc) : ChainsSound t where
  nbuf_le := hbuild ▸ hs.nbuf_le
  bufs_length := by rw [hlength, hs.bufs_length, hbuild]
  chains_length := by rw [hchains, hs.chains_length, hbuild]
  holds c hc := by
    rw [State.chainList_congr_next hbuild hnext hchains]
    exact (hs.holds c (hbuild ▸ hc)).congr hbuild (State.chain_congr hchains c) (fun x _ => hnext x) fun x => by rw [hloc]

theorem ChainsSound.setConn (hs : ChainsSound s) (k : Nat) (f : Conn → Conn) : ChainsSound (s.setConn k f) :=
  hs.congr rfl rfl rfl (fun _ => rfl) fun _ => rfl

theorem ReleasedTo.congr (h : ReleasedTo s t b) (hbuild : u.build = t.build) (hbufs : u.bufs = t.bufs)
    (hchains : u.chains = t.chains) : ReleasedTo s u b := by
  simpa only [ReleasedTo, SameBufsBut, SameChainsBut, State.chainList_congr hbuild hbufs hchains, State.buf_congr hbufs,
    hchains] using h

theorem RetxDropped.congr (h : RetxDropped s t b) (hbuild : u.build = t.build) (hbufs : u.bufs = t.bufs)
    (hchains : u.chains = t.chains) : RetxDropped s u b := by
  simpa only [RetxDropped, SameBufsBut, SameChainsBut, State.chainList_congr hbuild hbufs hchains, State.buf_congr hbufs,
    hchains] using h

theorem ReleasedTo.setConn (h : ReleasedTo s t b) (k : Nat) (f : Conn → Conn) : ReleasedTo s (t.setConn k f) b :=
  h.congr rfl rfl rfl

theorem RetxDropped.setConn (h : RetxDropped s t b) (k : Nat) (f : Conn → Conn) : RetxDropped s (t.setConn k f) b :=
  h.congr rfl rfl rfl

theorem RetxDropped.finish (h : RetxDropped s t b) {op err : Byte} {r0 r1 : Word} : RetxDropped s (t.finish op err r0 r1) b :=
  h.congr rfl rfl rfl

end

/-! #### A reference dropped, and the buffer given back (R115, R242) -/

section
variable {s : State} {b : Handle}

/-- R115 on a host-held buffer: with REF = 0 it is R111 on SPARE, and otherwise nothing. -/
theorem releasedTo_release (hs : ChainsSound s) (hb : s.build.hasBuffer b) (hheld : s.hostHeld b) :
    ReleasedTo s (s.release b).2 b := by
  rcases s.release_cases b with ⟨href, hrelease⟩ | ⟨href, hrelease⟩
  · have he := hs.pushHead_edit (Nat.add_pos_left (by decide) _) hb (hostHeld_free hheld)
    rw [hrelease]
    exact ⟨fun x hx => s.pushHead_buf_ne SPARE hx,
      fun _ => ⟨he.chainList_same hs, he.sameChainsBut hs, s.pushHead_buf_same SPARE b (hs.lt_bufs_length hb)⟩,
      fun h => absurd href h⟩
  · rw [hrelease]
    exact ⟨fun _ _ => rfl, fun h => absurd h href, fun _ => ⟨rfl, by rw [← hheld]⟩⟩

theorem ChainsSound.release (hs : ChainsSound s) (hb : s.build.hasBuffer b) (hheld : s.hostHeld b) :
    ChainsSound (s.release b).2 := by
  rcases s.release_cases b with ⟨-, hrelease⟩ | ⟨-, hrelease⟩
  · rw [hrelease]
    exact (hs.pushHead_edit (Nat.add_pos_left (by decide) _) hb (hostHeld_free hheld)).chainsSound hs
  · rwa [hrelease]

theorem State.dropRef_poolEdit (s : State) (b : Handle) : PoolEdit s (s.dropRef b) := by
  rcases s.dropRef_cases b with ⟨-, hdrop⟩ | ⟨-, hdrop⟩
  · rw [hdrop]
    exact PoolEdit.refl s
  · rw [hdrop]
    exact (PoolEdit.refl s).setBuf b _

theorem State.dropRef_buf_ne {h : Handle} (hh : h ≠ b) : (s.dropRef b).buf h = s.buf h := by
  rcases s.dropRef_cases b with ⟨-, hdrop⟩ | ⟨-, hdrop⟩
  · rw [hdrop]
  · rw [hdrop, State.buf_setBuf_ne _ _ hh]

theorem State.dropRef_buf_same (hb : b.toNat < s.bufs.length) :
    (s.dropRef b).buf b = { s.buf b with ref := if (s.buf b).ref = 0 then 0 else (s.buf b).ref - 1 } := by
  rcases s.dropRef_cases b with ⟨href, hdrop⟩ | ⟨href, hdrop⟩
  · rw [hdrop, if_pos href, ← href]
  · rw [hdrop, State.buf_setBuf_same _ _ _ hb, if_neg href]

/-- Dropping a reference moves no buffer. -/
theorem State.dropRef_place (hb : b.toNat < s.bufs.length) (h : Handle) :
    ((s.dropRef b).buf h).next = (s.buf h).next ∧ ((s.dropRef b).buf h).loc = (s.buf h).loc := by
  by_cases hh : h = b
  · rw [hh, State.dropRef_buf_same hb]
    exact ⟨rfl, rfl⟩
  · rw [State.dropRef_buf_ne hh]
    exact ⟨rfl, rfl⟩

theorem ChainsSound.dropRef (hs : ChainsSound s) (hb : s.build.hasBuffer b) : ChainsSound (s.dropRef b) :=
  hs.congr (s.dropRef_build b) (s.dropRef_bufs_length b) (s.dropRef_chains b)
    (fun h => (State.dropRef_place (hs.lt_bufs_length hb) h).1) fun h => (State.dropRef_place (hs.lt_bufs_length hb) h).2

/-- What `ReleaseRetx` does to the pool. -/
def State.dropRetx (s : State) (b : Handle) : State :=
  if ((s.dropRef b).buf b).loc = .off then ((s.dropRef b).release b).2 else s.dropRef b

theorem State.dropRetx_poolEdit (s : State) (b : Handle) : PoolEdit s (s.dropRetx b) := by
  unfold State.dropRetx
  split
  · exact (s.dropRef_poolEdit b).trans (State.release_poolEdit _ b)
  · exact s.dropRef_poolEdit b

/-- R242 on a buffer of the pool: R115 with one reference less where the buffer is host-held, and otherwise only REF changes. -/
theorem retxDropped_dropRetx (hs : ChainsSound s) (hb : s.build.hasBuffer b) : RetxDropped s (s.dropRetx b) b := by
  have hlen := hs.lt_bufs_length hb
  have hbuf := State.dropRef_buf_same hlen
  have hframe : SameBufsBut s (s.dropRef b) b := fun _ hx => State.dropRef_buf_ne hx
  have hlist (c : Nat) : (s.dropRef b).chainList c = s.chainList c :=
    State.chainList_congr_next (s.dropRef_build b) (fun h => (State.dropRef_place hlen h).1) (s.dropRef_chains b) c
  by_cases hoff : (s.buf b).loc = .off
  · have hheld : (s.dropRef b).hostHeld b := by rw [State.hostHeld, hbuf, hoff]
    have hbuild : (s.dropRef b).build.hasBuffer b := s.dropRef_build b ▸ hb
    obtain ⟨hothers, hspare, hkept⟩ := releasedTo_release (hs.dropRef hb) hbuild hheld
    rw [State.dropRetx, if_pos hheld]
    refine ⟨fun x hx => (hothers x hx).trans (hframe x hx), fun h => ?_, fun h => ?_⟩
    · obtain ⟨-, href⟩ := h
      obtain ⟨hhead, hchains, hsame⟩ := hspare (by rw [hbuf]; exact href)
      refine ⟨hhead.trans (by rw [hlist]), fun c hc => (hchains c hc).trans (hlist c), hsame.trans ?_⟩
      rw [hbuf, href, State.chain_congr (s.dropRef_chains b)]
    · obtain ⟨hchains, hsame⟩ := hkept (by rw [hbuf]; exact fun href => h ⟨hoff, href⟩)
      exact ⟨hchains.trans (s.dropRef_chains b), hsame.trans (by rw [hbuf, ← hoff])⟩
  · have hloc : ((s.dropRef b).buf b).loc ≠ .off := by rwa [hbuf]
    rw [State.dropRetx, if_neg hloc]
    exact ⟨hframe, fun h => absurd h.1 hoff, fun _ => ⟨s.dropRef_chains b, hbuf⟩⟩

end

/-! #### `ReleaseStaged` and `ReleaseRetx` on a slot (R242, R243) -/

section
variable {s : State} {k : Nat}

theorem State.releaseStaged_some (h : (s.conn k).staged ≠ NONE) :
    s.releaseStaged k =
      ((s.setLoc (s.conn k).staged .off).release (s.conn k).staged).2.setConn k fun x => { x with staged := NONE, soff := 0 } :=
  if_neg h

theorem State.releaseRetx_some (h : (s.conn k).retx ≠ NONE) :
    s.releaseRetx k = (s.dropRetx (s.conn k).retx).setConn k fun x => { x with retx := NONE } :=
  if_neg h

theorem State.setLoc_release_poolEdit (s : State) (b : Handle) : PoolEdit s ((s.setLoc b .off).release b).2 :=
  ((PoolEdit.refl s).setBuf b _).trans (State.release_poolEdit _ b)

theorem State.releaseStaged_slotEdit (s : State) (k : Nat) : SlotEdit s (s.releaseStaged k) k := by
  by_cases h : (s.conn k).staged = NONE
  · rw [s.releaseStaged_none k h]
    exact (PoolEdit.refl s).slotEdit
  · exact State.releaseStaged_some h ▸ (s.setLoc_release_poolEdit _).slotEdit.setConn _

theorem State.releaseRetx_slotEdit (s : State) (k : Nat) : SlotEdit s (s.releaseRetx k) k := by
  by_cases h : (s.conn k).retx = NONE
  · rw [s.releaseRetx_none k h]
    exact (PoolEdit.refl s).slotEdit
  · exact State.releaseRetx_some h ▸ (s.dropRetx_poolEdit _).slotEdit.setConn _

/-- After an edit of the pool, an update of a slot that exists does to its record what it would have done before. -/
theorem PoolEdit.conn_setConn_same {t : State} (h : PoolEdit s t) (hk : k < s.conns.length) (f : Conn → Conn) :
    (t.setConn k f).conn k = f (s.conn k) := by
  rw [State.conn_setConn_same _ _ _ (h.conns ▸ hk), State.conn_congr h.conns]

theorem State.releaseStaged_conn (hk : k < s.conns.length) :
    (s.releaseStaged k).conn k =
      { s.conn k with staged := NONE, soff := if (s.conn k).staged = NONE then (s.conn k).soff else 0 } := by
  by_cases h : (s.conn k).staged = NONE
  · rw [s.releaseStaged_none k h, if_pos h, ← h]
  · rw [State.releaseStaged_some h, (s.setLoc_release_poolEdit _).conn_setConn_same hk, if_neg h]

theorem State.releaseRetx_conn (hk : k < s.conns.length) : (s.releaseRetx k).conn k = { s.conn k with retx := NONE } := by
  by_cases h : (s.conn k).retx = NONE
  · rw [s.releaseRetx_none k h, ← h]
  · rw [State.releaseRetx_some h, (s.dropRetx_poolEdit _).conn_setConn_same hk]

theorem releasedTo_releaseStaged (hs : s.sound) (hk : k < s.conns.length) (h : (s.conn k).staged ≠ NONE) :
    ReleasedTo s (s.releaseStaged k) (s.conn k).staged := by
  obtain ⟨hb, hhold⟩ := staged_held hs hk h
  rw [State.releaseStaged_some h]
  exact (releasedTo_setLoc_release (chainsSound_of_sound hs) hb (by simp [hhold])).setConn k _

theorem chainsSound_releaseStaged (hs : s.sound) (hk : k < s.conns.length) : ChainsSound (s.releaseStaged k) := by
  by_cases h : (s.conn k).staged = NONE
  · rw [s.releaseStaged_none k h]
    exact chainsSound_of_sound hs
  · obtain ⟨hb, hhold⟩ := staged_held hs hk h
    have hchains := chainsSound_of_sound hs
    have hoff : ChainsSound (s.setLoc (s.conn k).staged .off) := hchains.setLoc hb (by simp [hhold]) (by simp)
    have hheld : (s.setLoc (s.conn k).staged .off).hostHeld (s.conn k).staged := by
      rw [State.hostHeld, State.setLoc_buf_same (hchains.lt_bufs_length hb)]
    exact State.releaseStaged_some h ▸ (hoff.release hb hheld).setConn k _

theorem retxDropped_releaseRetx (hs : ChainsSound s) (hb : s.build.hasBuffer (s.conn k).retx) :
    RetxDropped s (s.releaseRetx k) (s.conn k).retx := by
  rw [State.releaseRetx_some (hs.ne_none hb)]
  exact (retxDropped_dropRetx hs hb).setConn k _

end

/-! #### CONN_INIT and CONN_RESET (R241, R246, R248) -/

/-- `t` is `s` after slot `k` has given its staged buffer and its retransmit buffer back, up to the host registers and the slot's
record. -/
def GivesBackBuffers (s t : State) (k : Nat) : Prop :=
  let x := s.conn k
  SameConnsBut s t k ∧ SameData s t ∧ SameSetting s t ∧ t.csa = s.csa ∧ t.slf = s.slf ∧
    (x.staged = NONE → x.retx = NONE → SamePool s t) ∧
    (x.staged ≠ NONE → x.retx = NONE → ReleasedTo s t x.staged) ∧
    (x.staged = NONE → x.retx ≠ NONE → RetxDropped s t x.retx) ∧
    (x.staged ≠ NONE → x.retx ≠ NONE → ∃ u : State, u.build = s.build ∧ ReleasedTo s u x.staged ∧ RetxDropped u t x.retx)

section
variable {s t : State} {k : Nat}

/-- Any state with the pool that the two releases leave has both buffers given back.  The second release finds the chains sound again
after the first. -/
theorem givesBackBuffers_of_slotEdit (hs : s.sound) (hk : k < s.conns.length) (hedit : SlotEdit s t k)
    (hbufs : t.bufs = ((s.releaseStaged k).releaseRetx k).bufs)
    (hchains : t.chains = ((s.releaseStaged k).releaseRetx k).chains) : GivesBackBuffers s t k := by
  have hbuild : t.build = ((s.releaseStaged k).releaseRetx k).build := by
    rw [State.releaseRetx_build, State.releaseStaged_build, hedit.setting.1]
  have hconn : ((s.releaseStaged k).conn k).retx = (s.conn k).retx := by rw [State.releaseStaged_conn hk]
  refine ⟨hedit.others, hedit.data, hedit.setting, hedit.csa, hedit.slf, ?neither, ?staged, ?retx, ?both⟩
  case neither =>
    intro hstaged hretx
    rw [s.releaseStaged_none k hstaged, s.releaseRetx_none k hretx] at hbufs hchains
    exact ⟨hbufs, hchains⟩
  case staged =>
    intro hstaged hretx
    rw [(s.releaseStaged k).releaseRetx_none k (hconn.trans hretx)] at hbuild hbufs hchains
    exact (releasedTo_releaseStaged hs hk hstaged).congr hbuild hbufs hchains
  case retx =>
    intro hstaged hretx
    rw [s.releaseStaged_none k hstaged] at hbuild hbufs hchains
    exact (retxDropped_releaseRetx (chainsSound_of_sound hs) (retx_hasBuffer hs hk hretx)).congr hbuild hbufs hchains
  case both =>
    intro hstaged hretx
    have hb : (s.releaseStaged k).build.hasBuffer ((s.releaseStaged k).conn k).retx := by
      rw [hconn, State.releaseStaged_build]
      exact retx_hasBuffer hs hk hretx
    have hdropped := (retxDropped_releaseRetx (chainsSound_releaseStaged hs hk) hb).congr hbuild hbufs hchains
    exact ⟨s.releaseStaged k, s.releaseStaged_build k, releasedTo_releaseStaged hs hk hstaged, hconn ▸ hdropped⟩

/-- What `ResetSlot` makes of a slot's record (R241). -/
def Conn.idled (x : Conn) : Conn := { idleConn with reg := x.reg, proto := x.proto, lport := x.lport }

theorem State.resetSlot_slotEdit (s : State) (k : Nat) : SlotEdit s (s.resetSlot k) k :=
  ((s.releaseStaged_slotEdit k).trans ((s.releaseStaged k).releaseRetx_slotEdit k)).setConn _

theorem State.resetSlot_conn (hk : k < s.conns.length) : (s.resetSlot k).conn k = (s.conn k).idled := by
  have hstaged := s.releaseStaged_slotEdit k
  have hretx := (s.releaseStaged k).releaseRetx_slotEdit k
  rw [State.resetSlot, State.conn_setConn_same _ _ _ ((hstaged.trans hretx).conns_length ▸ hk),
    State.releaseRetx_conn (hstaged.conns_length ▸ hk), State.releaseStaged_conn hk, Conn.idled]

/-- A command that runs `ResetSlot` and may then write fields of its slot. -/
theorem answers_resetSlot (hs : s.sound) (hk : k < s.conns.length) {op : Byte} {f : Conn → Conn} :
    Answers (((s.resetSlot k).setConn k f).done op 0 0) fun t =>
      Reports s t op 0 0 ∧ GivesBackBuffers s t k ∧ t.conn k = f (s.conn k).idled := by
  have hedit := s.resetSlot_slotEdit k
  refine answers_done ⟨reports_finish ?regs, givesBackBuffers_of_slotEdit hs hk (hedit.setConn f).finish ?bufs ?chains, ?conn⟩
  case regs => rw [State.setConn_regs, State.resetSlot_regs]
  case bufs => rw [State.finish_bufs, State.setConn_bufs, State.resetSlot, State.setConn_bufs]
  case chains => rw [State.finish_chains, State.setConn_chains, State.resetSlot, State.setConn_chains]
  case conn => rw [State.finish_conn, State.conn_setConn_same _ _ _ (hedit.conns_length ▸ hk), State.resetSlot_conn hk]

end

/-- Settles O46: both commands run `ResetSlot`; CONN_RESET writes no field after it, CONN_INIT writes PROTO and LPORT. -/
theorem connInitAndResetIdleTheSlot : Obligations.ConnInitAndResetIdleTheSlot := by
  intro s k port hsound
  refine ⟨fun h => ⟨if_pos h, if_pos h⟩, fun hk => ?_⟩
  have hlen := conn_index_lt hsound.1 hk
  have hreset : exec (.connReset k) s = ((s.resetSlot k.toNat).setConn k.toNat id).done 0x52 0 0 := by
    rw [State.setConn_id]
    exact check_passed hk
  exact ⟨(answers_resetSlot hsound hlen).of_eq hreset, (answers_resetSlot hsound hlen).of_eq (check_passed hk)⟩

/-! #### CONN_CLOSE (R252) -/

section
variable {s : State} {k : Byte}

theorem exec_connClose_handshake (hk : s.build.hasSlot k)
    (h : (s.conn k.toNat).state = .listen ∨ (s.conn k.toNat).state = .synSent ∨ (s.conn k.toNat).state = .synRcvd) :
    exec (.connClose k) s = ((s.releaseRetx k.toNat).setConn k.toNat fun x =>
      { x with synDue := false, synackDue := false, retxDue := false, ackDue := false, state := .closed,
               events := x.events ||| evClosed }).done 0x56 1 0 := by
  refine (check_passed hk).trans ?_
  rcases h with h | h | h <;> rw [h]

theorem exec_connClose_opened (hk : s.build.hasSlot k) (h : (s.conn k.toNat).state = .opened) :
    exec (.connClose k) s = (s.setConn k.toNat fun x => { x with state := .closing }).done 0x56 1 0 := by
  refine (check_passed hk).trans ?_
  rw [h]

theorem exec_connClose_idle (hk : s.build.hasSlot k)
    (h : (s.conn k.toNat).state = .closed ∨ (s.conn k.toNat).state = .closing) :
    exec (.connClose k) s = s.done 0x56 0 0 := by
  refine (check_passed hk).trans ?_
  rcases h with h | h <;> rw [h]

end

/-- A command that runs `ReleaseRetx` (R242) and then writes fields of its slot. -/
theorem answers_releaseRetx {s : State} {k : Nat} (hs : s.sound) (hk : k < s.conns.length) {op : Byte} {r : Word}
    {f : Conn → Conn} :
    Answers (((s.releaseRetx k).setConn k f).done op r 0) fun t =>
      Reports s t op r 0 ∧ t.conn k = f { s.conn k with retx := NONE } ∧ ((s.conn k).retx = NONE → SamePool s t) ∧
        ((s.conn k).retx ≠ NONE → RetxDropped s t (s.conn k).retx) ∧ SameConnsBut s t k ∧ SameData s t ∧ SameSetting s t ∧
        t.csa = s.csa ∧ t.slf = s.slf := by
  have hretx := s.releaseRetx_slotEdit k
  have hedit := (hretx.setConn f).finish (op := op) (err := 0) (r0 := r) (r1 := 0)
  refine answers_done ⟨reports_finish ?regs, ?conn, fun h => ?kept, fun h => ?dropped, hedit.others,
    hedit.data, hedit.setting, hedit.csa, hedit.slf⟩
  case regs => rw [State.setConn_regs, State.releaseRetx_regs]
  case conn => rw [State.finish_conn, State.conn_setConn_same _ _ _ (hretx.conns_length ▸ hk), State.releaseRetx_conn hk]
  case kept =>
    rw [s.releaseRetx_none k h]
    exact ⟨rfl, rfl⟩
  case dropped =>
    exact (retxDropped_releaseRetx (chainsSound_of_sound hs) (retx_hasBuffer hs hk h)).setConn k f |>.finish

/-- Settles O49, by the slot's STATE. -/
theorem closeDrainsOrAbandons : Obligations.CloseDrainsOrAbandons := by
  intro s k hsound
  refine ⟨fun h => if_pos h, fun hk => ?_⟩
  have hlen := conn_index_lt hsound.1 hk
  exact ⟨fun h => answers_report.of_eq (exec_connClose_idle hk h),
    fun h => (answers_setConn hlen).of_eq (exec_connClose_opened hk h),
    fun h => (answers_releaseRetx hsound hlen).of_eq (exec_connClose_handshake hk h)⟩

/-! #### CONN_REG, CONN_LISTENER, CONN_SETREMOTE and CONN_EVENTS (R247, R249, R253, R255) -/

theorem eventsWord_eq_setWidth (x : BitVec 4) : 0#28 ++ x = x.setWidth 32 :=
  (BitVec.setWidth_eq_append (by decide)).symm

/-- Settles O47: each command that passes its checks is one update of the slot's record. -/
theorem slotSettingsWriteTheirFields : Obligations.SlotSettingsWriteTheirFields := by
  intro s k v port hshaped
  refine ⟨fun h => ⟨if_pos h, if_pos h, if_pos h, if_pos h⟩, fun hk => ?_⟩
  have hlen := conn_index_lt hshaped hk
  refine ⟨?reg, ?listener, ?notClosed, ?setremote, ?events⟩
  case reg => exact (answers_setConn hlen).of_eq (check_passed hk)
  case listener => exact (answers_setConn hlen).of_eq (check_passed hk)
  case notClosed => exact fun h => (check_passed hk).trans (if_pos h)
  case setremote => exact fun h => (answers_setConn hlen).of_eq ((check_passed hk).trans (check_passed h))
  case events =>
    rw [← eventsWord_eq_setWidth]
    exact (answers_setConn hlen).of_eq (check_passed hk)

/-! #### CONN_OPEN and CONN_CONNECT (R250, R251) -/

section
variable {s : State} {k : Byte} {port : Half}

theorem exec_connOpen_udp (hk : s.build.hasSlot k) (hstate : (s.conn k.toNat).state = .closed)
    (hport : (s.conn k.toNat).lport ≠ 0) (hproto : (s.conn k.toNat).proto = .udp) :
    exec (.connOpen k) s =
      (s.setConn k.toNat fun x => { x with state := .opened, events := x.events ||| evOpened }).done 0x54 4 0 := by
  refine (check_passed hk).trans ((check_passed hstate).trans ((if_neg hport).trans ?_))
  rw [hproto]

theorem exec_connOpen_tcp (hk : s.build.hasSlot k) (hstate : (s.conn k.toNat).state = .closed)
    (hport : (s.conn k.toNat).lport ≠ 0) (hproto : (s.conn k.toNat).proto = .tcp) :
    exec (.connOpen k) s =
      (s.setConn k.toNat fun x =>
        { x with rbound := false, raddr := zeroAddr, rport := 0, sndSeq := s.regs.arg0, rcvAck := 0,
                 state := .listen }).done 0x54 1 0 := by
  refine (check_passed hk).trans ((check_passed hstate).trans ((if_neg hport).trans ?_))
  rw [hproto]

theorem exec_connConnect_badState (hk : s.build.hasSlot k)
    (h : (s.conn k.toNat).proto = .udp ∨ (s.conn k.toNat).state ≠ .closed) :
    exec (.connConnect k port) s = .next (s.errored 0x55 9) := by
  by_cases hproto : (s.conn k.toNat).proto = .tcp
  · have hstate := h.resolve_left (by simp [hproto])
    exact (check_passed hk).trans ((check_passed hproto).trans (if_pos hstate))
  · exact (check_passed hk).trans (if_pos hproto)

end

/-- Settles O48: after the checks, PROTO decides what CONN_OPEN writes, and CONN_CONNECT is one update of the slot's record. -/
theorem openAndConnectEnterTheirStates : Obligations.OpenAndConnectEnterTheirStates := by
  intro s k port hshaped
  refine ⟨fun h => ⟨if_pos h, if_pos h⟩, fun hk => ?_⟩
  have hlen := conn_index_lt hshaped hk
  refine ⟨?openState, ?openPort, ?openUdp, ?openTcp, ?connectState, ?connectPort, ?connect⟩
  case openState => exact fun h => (check_passed hk).trans (if_pos h)
  case openPort => exact fun h h' => (check_passed hk).trans ((check_passed h).trans (if_pos h'))
  case openUdp => exact fun h h' hp => (answers_setConn hlen).of_eq (exec_connOpen_udp hk h h' hp)
  case openTcp => exact fun h h' hp => (answers_setConn hlen).of_eq (exec_connOpen_tcp hk h h' hp)
  case connectState => exact exec_connConnect_badState hk
  case connectPort =>
    exact fun hp h h' => (check_passed hk).trans ((check_passed hp).trans ((check_passed h).trans (if_pos h')))
  case connect =>
    exact fun hp h h' => (answers_setConn hlen).of_eq
      ((check_passed hk).trans ((check_passed hp).trans ((check_passed h).trans (if_neg h'))))

/-! #### CONN_TIMEOUT (R280) -/

/-- Settles O56: RETX_CNT against CFG.MAXATT decides between RETX_DUE and EV_GAVEUP. -/
theorem timeoutSchedulesOrGivesUp : Obligations.TimeoutSchedulesOrGivesUp := by
  intro s k hshaped
  refine ⟨fun h => if_pos h, fun hk => ?_⟩
  have hlen := conn_index_lt hshaped hk
  refine ⟨fun hwaits hlt => ?schedules, fun hwaits hle => ?givesUp, fun hwaits => ?idle⟩
  case schedules => exact (answers_setConn hlen).of_eq ((check_passed hk).trans ((if_pos hwaits).trans (if_pos hlt)))
  case givesUp =>
    exact (answers_setConn hlen).of_eq ((check_passed hk).trans ((if_pos hwaits).trans (if_neg (Nat.not_lt.2 hle))))
  case idle => exact answers_report.of_eq ((check_passed hk).trans (if_neg hwaits))

end Sys2Proof.Machine

/-! ### Reset (70_reset_and_hazards.md R340, R341)

The records of `State.resetOf` are those of the table; `State.softReset` and `State.hardReset` hold the same records, so the one table
serves the initial machine, the reset input and SOFT_RESET. -/

namespace Sys2Proof.Machine

section
variable {g : Config}

/-! #### The registers -/

theorem maxpayTcp_lt (hg : g.valid) : g.maxpayTcp < 65536 := by
  obtain ⟨-, ⟨-, hcap⟩, -⟩ := hg
  rw [Config.maxpayTcp]
  omega

/-- The words of HOST_ADDR_RESET that an IPv4 build does not hold are no bytes of its address (R25). -/
theorem addrBytes_resetHostaddr : addrBytes g.ipv (resetHostaddr g) = addrBytes g.ipv g.hostAddrReset := by
  cases hv : g.ipv <;> simp [resetHostaddr, hv, addrBytes]

/-! #### The records of the units -/

theorem State.resetOf_buf {b : Handle} (hb : g.hasBuffer b) : (State.resetOf g).buf b = resetBuffer g.nbuf b.toNat := by
  simp [State.buf, State.resetOf, hb]

/-- The table bounds `b` by NBUF - 1 where `resetBuffer` bounds `b + 1` by NBUF (R340). -/
theorem resetBuffer_next (n : Nat) (b : Handle) :
    (resetBuffer n b.toNat).next = if b.toNat < n - 1 then b + 1 else NONE := by
  have hsucc : BitVec.ofNat 8 (b.toNat + 1) = b + 1 := by simp [BitVec.ofNat_add]
  simp only [resetBuffer, hsucc, Nat.lt_sub_iff_add_lt]

theorem State.resetOf_chain_spare :
    (State.resetOf g).chain SPARE =
      { head := 0, tail := BitVec.ofNat 8 (g.nbuf - 1), count := BitVec.ofNat 8 g.nbuf } := rfl

theorem State.resetOf_chain {c : Nat} (hc : 1 ≤ c) : (State.resetOf g).chain c = emptyChain := by
  obtain ⟨i, rfl⟩ := Nat.exists_eq_add_of_le' hc
  exact List.getElem?_getD_replicate_default_eq emptyChain _ i

theorem State.resetOf_slip (c : Nat) : (State.resetOf g).slip c = idleChannel :=
  List.getElem?_getD_replicate_default_eq idleChannel _ (c - 1)

theorem State.resetOf_conn (k : Nat) : (State.resetOf g).conn k = idleConn :=
  List.getElem?_getD_replicate_default_eq idleConn _ k

/-! #### The table -/

theorem State.resetOf_atReset (hg : g.valid) : (State.resetOf g).atReset := by
  have ⟨⟨_, hnbuf⟩, _⟩ := hg
  refine ⟨⟨rfl, ?tcpwin, addrBytes_resetHostaddr, rfl, rfl, rfl⟩, ⟨rfl, rfl, rfl⟩, fun b hb => ?buf, ?spare, fun c hc _ => ?chain,
    fun c _ _ => ?slip, fun k _ => State.resetOf_conn k⟩
  case tcpwin => exact Nat.mod_eq_of_lt (maxpayTcp_lt hg)
  case buf =>
    rw [State.resetOf_buf (g := g) hb]
    exact ⟨rfl, rfl, rfl, rfl, resetBuffer_next g.nbuf b⟩
  case spare =>
    rw [State.resetOf_chain_spare]
    exact ⟨rfl, Nat.mod_eq_of_lt (by omega), Nat.mod_eq_of_lt (by omega)⟩
  case chain =>
    rw [State.resetOf_chain hc]
    exact ⟨rfl, rfl, rfl⟩
  case slip =>
    rw [State.resetOf_slip]
    exact ⟨rfl, rfl, rfl, rfl, rfl, rfl⟩

end

/-! #### The reset input and SOFT_RESET -/

section
variable {s : State} {op err : Byte} {r0 r1 : Word}

/-- The table says nothing of STATUS, RES0 and RES1 (R340). -/
@[simp] theorem State.finish_atReset : (s.finish op err r0 r1).atReset ↔ s.atReset := Iff.rfl

/-- The table says nothing of the data and of the model's own fields, which are all that SOFT_RESET keeps (R341). -/
theorem State.softReset_atReset_iff : s.softReset.atReset ↔ (State.resetOf s.build).atReset := Iff.rfl

/-- The reset input does to the table what SOFT_RESET does (R340). -/
theorem State.hardReset_atReset_iff : s.hardReset.atReset ↔ s.softReset.atReset := Iff.rfl

theorem State.softReset_atReset (hg : s.build.valid) : s.softReset.atReset :=
  State.softReset_atReset_iff.2 (State.resetOf_atReset hg)

theorem State.hardReset_atReset (hg : s.build.valid) : s.hardReset.atReset :=
  State.hardReset_atReset_iff.2 (State.softReset_atReset hg)

theorem step_resetInput (hg : s.build.valid) {rest : List HostAccess} (hin : s.input = .reset :: rest) :
    step s = .next { s with input := rest }.hardReset := by
  rw [step, if_pos hg, hin]
  rfl

end

/-- Settles O9: the reset input leaves `State.hardReset`, whose records are those of the initial machine. -/
theorem resetInputLeavesTheResetTable : Obligations.ResetInputLeavesTheResetTable :=
  ⟨fun _ _ hg hin => ⟨_, step_resetInput hg hin, State.hardReset_atReset hg, rfl, rfl, rfl, rfl, rfl⟩,
    fun _ hg => ⟨State.resetOf_atReset hg, rfl, rfl, rfl, rfl, rfl⟩⟩

/-- Settles O10: SOFT_RESET leaves the table by `State.softReset`, which keeps the memory, and its own STATUS by `State.finish`. -/
theorem softResetKeepsOnlyTheData : Obligations.SoftResetKeepsOnlyTheData := fun _ hg =>
  answers_done ⟨State.finish_atReset.2 (State.softReset_atReset hg), rfl, rfl, rfl, rfl, State.readByte_congr rfl rfl,
    rfl, rfl, rfl, rfl⟩

end Sys2Proof.Machine

/-! ### The word of a command (30_encoding.md R90 to R99) -/

namespace Sys2Proof

open BitVec (allOnes extractLsb'_append_eq_right)

/-- A zero-extended operand is within the mask of its width. -/
theorem append_and_lowMask {m n : Nat} (v : BitVec n) : (0#m ++ v) &&& (0#m ++ allOnes n) = 0#m ++ v :=
  and_lowMask_eq_iff.2 extractLsb'_append_eq_right

/-- The word of a command has a 0 in every bit that its format ignores (R94). -/
theorem encode_and_usedBits (i : Instr) : encode i &&& i.usedBits = encode i := by
  rw [and_usedBits_eq_encode_iff]
  cases i <;> simp only [opField_encode, aField_encode, bField_encode, true_and] <;>
    simp only [Instr.usedBits, Instr.aOperand, Instr.bOperand, BitVec.ofNat_eq_ofNat, aField_ofNat, bField_ofNat, Nat.reduceDiv,
      Nat.reducePow, BitVec.zero_and, and_self, and_byteMask, true_and, BitVec.reduceOfNat, and_halfMask]
  case chainPush b urgent =>
    calc (0#7 ++ BitVec.ofBool urgent ++ b) &&& (0#7 ++ allOnes 1 ++ allOnes 8)
      _ = ((0#7 ++ BitVec.ofBool urgent) &&& (0#7 ++ allOnes 1)) ++ (b &&& allOnes 8) := BitVec.and_append
      _ = _ := by rw [append_and_lowMask, BitVec.and_allOnes]
  case chainRemove b => exact append_and_lowMask (m := 8) b
  case bufSetchan v => exact append_and_lowMask (m := 12) v
  case slipRx x => exact append_and_lowMask (m := 8) x
  case connReg r => exact append_and_lowMask (m := 15) (BitVec.ofBool r)
  case connAccept b => exact append_and_lowMask (m := 8) b
  case connRead n => exact append_and_lowMask (m := 13) n
  case connWrite n => exact append_and_lowMask (m := 13) n
  case connListener v => exact append_and_lowMask (m := 15) (BitVec.ofBool v)

/-- Settles O1: a word decodes to `i` when its used bits are those of `encode i`, which has no other bits. -/
theorem decodeInvertsEncode : Obligations.DecodeInvertsEncode :=
  fun i => decode_eq_instr_iff.mpr (encode_and_usedBits i)

/-- Settles O4: each word is evaluated. -/
theorem sampleWordsDecode : Obligations.SampleWordsDecode := by
  unfold Obligations.SampleWordsDecode
  decide

end Sys2Proof

/-! ### The host's steps (00_scope.md R16, 20_memory.md R70, R74, R80) -/

namespace Sys2Proof.Machine

section
variable {s : State} {rest : List HostAccess} {o w : Nat} {v : Word}

/-- A step of a valid build serves the next access. -/
theorem step_of_input (hvalid : s.build.valid) {a : HostAccess} (hinput : s.input = a :: rest) :
    step s = hostStep a { s with input := rest } := by
  rw [step, if_pos hvalid, hinput]

theorem step_cmdWrite_of_decode (hvalid : s.build.valid) (hinput : s.input = .write cmdOffset 32 v :: rest) {i : Instr}
    (h : decode v = .instr i) : step s = exec i { s with input := rest } := by
  rw [step_of_cmdWrite hvalid hinput, runCommand, h]

theorem decode_of_decodeTableWord {nbits n : Nat} {i : Instr} (h : decodeTableWord nbits n = some i) :
    decode (BitVec.ofNat 32 n) = .instr i := by
  rw [decodeTableWord] at h
  split at h
  · next hdecode => rw [hdecode, Option.some.inj h]
  · cases h

/-- The accesses that the block defines are those of a whole register of the window (R70, R80). -/
theorem accessStop_aligned (ho : o < 0x100) (halign : o % 4 = 0) : accessStop o 32 = none := by
  simp [accessStop, halign, ho]

theorem accessStop_outside (ho : 0x100 ≤ o) : accessStop o w = some (.fault .noSuchRegister) := if_pos ho

theorem accessStop_undefined (ho : o < 0x100) (h : w ≠ 32 ∨ o % 4 ≠ 0) : accessStop o w = some (.refused .undefinedAccess) :=
  (if_neg (Nat.not_le.2 ho)).trans (if_pos h)

/-- An access that the block does not define stops the step. -/
theorem step_of_accessStop (hvalid : s.build.valid) (hinput : s.input = .read o w :: rest ∨ s.input = .write o w v :: rest)
    {stop : Answer} (hstop : accessStop o w = some stop) : step s = stop := by
  rcases hinput with h | h <;> rw [step_of_input hvalid h, hostStep, hstop]

end

/-- Settles O5: a write to CMD is decoded and run, and a read of CMD is a read of a register that holds 0. -/
theorem stepRunsTheDecodedCommand : Obligations.StepRunsTheDecodedCommand := by
  intro s rest hvalid
  refine ⟨fun w i hinput hdecode => step_cmdWrite_of_decode hvalid hinput hdecode, fun hinput => ?_, fun nbits v i hi => ?_⟩
  · rw [step_of_input hvalid hinput, hostStep, accessStop_aligned (by decide) (by decide)]
    rfl
  · exact step_cmdWrite_of_decode (s := s.withFetchWord nbits v) hvalid rfl (decode_of_decodeTableWord hi)

/-- Settles O6, by the access that comes next and whether the block defines it. -/
theorem stepServesTheHost : Obligations.StepServesTheHost := by
  intro s rest o w v
  refine ⟨fun h => if_neg h, fun hvalid => ⟨?idle, ?read, ?write, ?stop⟩⟩
  case idle =>
    intro hinput
    rw [step, if_pos hvalid, hinput]
  case read =>
    rintro hinput ho halign rfl
    rw [step_of_input hvalid hinput, hostStep, accessStop_aligned ho halign]
    rfl
  case write =>
    rintro hinput ho halign rfl hcmd
    rw [step_of_input hvalid hinput, hostStep, accessStop_aligned ho halign]
    exact if_neg hcmd
  case stop =>
    exact fun hinput => ⟨fun ho => step_of_accessStop hvalid hinput (accessStop_outside ho),
      fun ho h => step_of_accessStop hvalid hinput (accessStop_undefined ho h)⟩

/-! #### Register writes (10_state.md R21 to R27) -/

section
variable (s : State) (o : Nat)

theorem regRead_setCfg (c : BitVec 15) :
    (s.setRegs { s.regs with cfg := c }).regRead o = if o = 0x08 then c.setWidth 32 else s.regRead o := by
  unfold State.regRead
  split <;> simp_all [statusWord]

theorem regRead_setTcpwin (x : Half) :
    (s.setRegs { s.regs with tcpwin := x }).regRead o = if o = 0x0C then halfWord x else s.regRead o := by
  unfold State.regRead
  split <;> simp_all [statusWord]

theorem regRead_setArg0 (x : Word) :
    (s.setRegs { s.regs with arg0 := x }).regRead o = if o = 0x30 then x else s.regRead o := by
  unfold State.regRead
  split <;> simp_all [statusWord]

theorem regRead_setArg1 (x : Word) :
    (s.setRegs { s.regs with arg1 := x }).regRead o = if o = 0x34 then x else s.regRead o := by
  unfold State.regRead
  split <;> simp_all [statusWord]

theorem regRead_setHostaddr (a : AddrWords) :
    (s.setHostaddr a).regRead o =
      if o = 0x10 then a.w0 else if o = 0x14 then v6Word s.build.ipv a.w1 else if o = 0x18 then v6Word s.build.ipv a.w2
      else if o = 0x1C then v6Word s.build.ipv a.w3 else s.regRead o := by
  unfold State.regRead
  split <;> simp_all [statusWord]

theorem regRead_setArgaddr (a : AddrWords) :
    (s.setArgaddr a).regRead o =
      if o = 0x20 then a.w0 else if o = 0x24 then v6Word s.build.ipv a.w1 else if o = 0x28 then v6Word s.build.ipv a.w2
      else if o = 0x2C then v6Word s.build.ipv a.w3 else s.regRead o := by
  unfold State.regRead
  split <;> simp_all [statusWord]

theorem onlyRegs_setRegs (r : HostRegs) : OnlyRegs s (s.setRegs r) :=
  ⟨⟨rfl, rfl, rfl, rfl⟩, ⟨rfl, rfl⟩, fun _ _ => rfl, rfl, rfl, rfl⟩

end

/-- The bits of `v` that `m` has, and those of `x` that it does not have. -/
def maskedBits (v x m : Word) : Word := (v &&& m) ||| (x &&& ~~~m)

@[simp] theorem maskedBits_all (v x : Word) : maskedBits v x 0xFFFFFFFF#32 = v := by
  have hones : 0xFFFFFFFF#32 = BitVec.allOnes 32 := rfl
  rw [maskedBits, hones, BitVec.not_allOnes, BitVec.and_allOnes, BitVec.and_zero, BitVec.or_zero]

@[simp] theorem maskedBits_none (v x : Word) : maskedBits v x 0#32 = x := by
  rw [maskedBits, BitVec.and_zero, BitVec.zero_or]
  exact BitVec.and_allOnes

/-- A register of `n` bits keeps the low `n` bits of what is written and has no others. -/
theorem maskedBits_low {n : Nat} (v : Word) (x : BitVec n) :
    maskedBits v (x.setWidth 32) ((BitVec.allOnes n).setWidth 32) = (v.setWidth n).setWidth 32 := by
  ext i hi
  by_cases h : i < n
  · simp [maskedBits, h, hi]
  · simp [maskedBits, h, BitVec.getLsbD_of_ge x i (Nat.not_lt.1 h)]

theorem halfWord_eq_setWidth (x : Half) : halfWord x = x.setWidth 32 :=
  (ofNat_eq_of_toNat (by rw [halfWord, BitVec.toNat_append]; simp)).symm.trans (BitVec.ofNat_toNat 32 x)

/-- The writable bits of the register at `o` (R21 to R27). -/
def writeMask (ipv : IPVersion) (o : Nat) : Word :=
  if o = 0x08 then 0x7FFF
  else if o = 0x0C then 0xFFFF
  else if o = 0x10 ∨ o = 0x20 ∨ o = 0x30 ∨ o = 0x34 then 0xFFFFFFFF
  else if ipv = .v6 ∧ (o = 0x14 ∨ o = 0x18 ∨ o = 0x1C ∨ o = 0x24 ∨ o = 0x28 ∨ o = 0x2C) then 0xFFFFFFFF
  else 0

/-- A write of one word of HOSTADDR is seen in that word only. -/
theorem regRead_setHostaddr_writeAddr (s : State) {i : Nat} (hi : i < 4) (o : Nat) (v : Word) :
    (s.setHostaddr (writeAddr s.build.ipv s.regs.hostaddr i v)).regRead o =
      if o = 0x10 + 4 * i then maskedBits v (s.regRead (0x10 + 4 * i)) (writeMask s.build.ipv (0x10 + 4 * i))
      else s.regRead o := by
  rw [regRead_setHostaddr]
  interval_cases i <;> rcases hv : s.build.ipv <;> split_ifs <;>
    simp_all [writeAddr, writeMask, v6Word, State.regRead]

theorem regRead_setArgaddr_writeAddr (s : State) {i : Nat} (hi : i < 4) (o : Nat) (v : Word) :
    (s.setArgaddr (writeAddr s.build.ipv s.regs.argaddr i v)).regRead o =
      if o = 0x20 + 4 * i then maskedBits v (s.regRead (0x20 + 4 * i)) (writeMask s.build.ipv (0x20 + 4 * i))
      else s.regRead o := by
  rw [regRead_setArgaddr]
  interval_cases i <;> rcases hv : s.build.ipv <;> split_ifs <;>
    simp_all [writeAddr, writeMask, v6Word, State.regRead]

/-- A write is seen at its own offset only, in the writable bits. -/
theorem regRead_regWrite (s : State) (o o' : Nat) (v : Word) :
    (s.regWrite o v).regRead o' =
      if o' = o then maskedBits v (s.regRead o) (writeMask s.build.ipv o) else s.regRead o' := by
  unfold State.regWrite
  split
  case h_1 =>
    rw [regRead_setCfg]
    exact if_congr Iff.rfl (maskedBits_low v s.regs.cfg).symm rfl
  case h_2 =>
    rw [regRead_setTcpwin, halfWord_eq_setWidth]
    refine if_congr Iff.rfl ?_ rfl
    rw [← maskedBits_low v s.regs.tcpwin, ← halfWord_eq_setWidth]
    rfl
  case h_3 => exact regRead_setHostaddr_writeAddr s (i := 0) (by decide) o' v
  case h_4 => exact regRead_setHostaddr_writeAddr s (i := 1) (by decide) o' v
  case h_5 => exact regRead_setHostaddr_writeAddr s (i := 2) (by decide) o' v
  case h_6 => exact regRead_setHostaddr_writeAddr s (i := 3) (by decide) o' v
  case h_7 => exact regRead_setArgaddr_writeAddr s (i := 0) (by decide) o' v
  case h_8 => exact regRead_setArgaddr_writeAddr s (i := 1) (by decide) o' v
  case h_9 => exact regRead_setArgaddr_writeAddr s (i := 2) (by decide) o' v
  case h_10 => exact regRead_setArgaddr_writeAddr s (i := 3) (by decide) o' v
  case h_11 => exact (regRead_setArg0 s o' v).trans (if_congr Iff.rfl (maskedBits_all _ _).symm rfl)
  case h_12 => exact (regRead_setArg1 s o' v).trans (if_congr Iff.rfl (maskedBits_all _ _).symm rfl)
  case h_13 =>
    have hmask : writeMask s.build.ipv o = 0#32 := by simp_all [writeMask]
    rw [hmask, maskedBits_none]
    split_ifs with h
    · rw [h]
    · rfl

theorem onlyRegs_regWrite (s : State) (o : Nat) (v : Word) : OnlyRegs s (s.regWrite o v) := by
  unfold State.regWrite
  split <;> exact onlyRegs_setRegs s _

/-- Settles O8: the register written decides the mask; HOSTADDR and ARGADDR share one argument. -/
theorem writableBitsReadBack : Obligations.WritableBitsReadBack :=
  fun s o o' v => ⟨onlyRegs_regWrite s o v, regRead_regWrite s o o' v⟩

end Sys2Proof.Machine

/-! ### What a command can do (30_encoding.md R95, 60_exceptions.md R320 to R322)

Every command makes its checks in the order of R322, of which the first that fails gives the error, and then has its effect and writes
its results.  `Effect` lists the effects that a command can have; `exec_checked` is the one place where the 52 meanings are taken
apart, and every claim about all commands is a claim about `Effect`. -/

namespace Sys2Proof.Machine

/-! #### The effects -/

/-- A byte other than END, decoded and stored in the receive buffer `b` of channel `c` (R223, R224). -/
def State.rxByte (s : State) (c : Byte) (b : Handle) (x : Byte) : State :=
  if (s.slip c.toNat).rxesc then
    slipStore c b (if x = slipEscEnd then slipEnd else if x = slipEscEsc then slipEsc else x)
      (s.setSlip c.toNat fun z => { z with rxesc := false })
  else if x = slipEsc then s.setSlip c.toNat fun z => { z with rxesc := true }
  else slipStore c b x s

/-- `s` with buffer `b` in RXBUF of channel `c` (R222). -/
def State.loadRx (s : State) (c : Nat) (b : Handle) : State := (s.setSlip c fun z => { z with rxbuf := b }).setLoc b .hold

/-- The frame in buffer `b` dropped, and the flags of channel `c` cleared (R221). -/
def State.rxDrop (s : State) (c : Nat) (b : Handle) : State :=
  (s.setBuf b fun y => { y with len := 0 }).setSlip c fun y => { y with rxovf := false, rxesc := false }

/-- The frame in buffer `b` of channel `c` put at the tail of PENDING, and the host-held buffer `r` in its place (R221). -/
def State.rxQueue (s : State) (c : Byte) (b r : Handle) : State :=
  ((s.setBuf b fun y => { y with chan := c.setWidth 4, loc := .off }).pushTail PENDING b).loadRx c.toNat r

/-- The frame that channel `c` sends is ended, and its buffer `b` given back (R225). -/
def State.txEnd (s : State) (c : Nat) (b : Handle) : State :=
  (((s.setSlip c fun z => { z with txcur := NONE, txpos := 0, txph := .idle }).setLoc b .off).release b).2

/-- What the step of R225 with a buffer in TXCUR can do to channel `c`. -/
inductive TxStep (s : State) (c : Nat) : State → Prop
  | advance (f : SlipChan → SlipChan) (hph : (s.slip c).txph ≠ .idle)
      (hf : (f (s.slip c)).rxbuf = (s.slip c).rxbuf ∧ (f (s.slip c)).txcur = (s.slip c).txcur ∧ (f (s.slip c)).txph ≠ .idle) :
      TxStep s c (s.setSlip c f)
  | last (hph : (s.slip c).txph = .data) : TxStep s c (s.txEnd c (s.slip c).txcur)

/-- Where a claim leaves the buffer: a consumed or dropped one is released (R290). -/
def State.settled (t : State) (b : Handle) : Claim → State
  | .staged => t
  | .deliver => t
  | .consumed => (t.release b).2
  | .dropped => (t.release b).2

/-- What CONN_CLOSE does to a slot whose handshake is not done (R252). -/
def State.abandon (s : State) (k : Nat) : State :=
  (s.releaseRetx k).setConn k fun x =>
    { x with synDue := false, synackDue := false, retxDue := false, ackDue := false, state := .closed,
             events := x.events ||| evClosed }

/-- The write FIFO of slot `k` with `d` after it (R262). -/
def State.fillWfifo (s : State) (k : Nat) (d : List Byte) : State := s.setConn k fun x => { x with wfifo := x.wfifo ++ d }

/-- `Effect s i t`: past its checks in state `s`, command `i` can leave `t`, up to STATUS, RES0 and RES1. -/
inductive Effect (s : State) : Instr → State → Prop
  -- nothing, or data bytes
  | nothing (i : Instr) : Effect s i s
  | data (i : Instr) (m : Memory) (hm : s.mem.wf → m.wf) : Effect s i { s with mem := m }
  -- the pool
  | takeSpare : Effect s .getSpare s.takeSpare.2
  | release {b : Handle} (hb : s.build.hasBuffer b) (hheld : s.hostHeld b) : Effect s (.addSpare b) (s.release b).2
  | queue {b : Handle} (hb : s.build.hasBuffer b) (hheld : s.hostHeld b) (hspare : s.takeSpare.1 ≠ NONE) :
      Effect s (.queue b) (s.takeSpare.2.pushTail PENDING b)
  | ref {b : Handle} (hb : s.build.hasBuffer b) (hloc : (s.buf b).loc ≠ .chain SPARE) :
      Effect s (.ref b) (s.setBuf b fun x => { x with ref := x.ref + 1 })
  | unref {b : Handle} (hb : s.build.hasBuffer b) (href : (s.buf b).ref ≠ 0) :
      Effect s (.unref b) (s.setBuf b fun x => { x with ref := x.ref - 1 })
  | push {c : Byte} {b : Handle} {urgent : Bool} (hc : s.build.hasChain c) (h0 : c.toNat ≠ SPARE) (hb : s.build.hasBuffer b)
      (hheld : s.hostHeld b) :
      Effect s (.chainPush c b urgent) (if urgent then s.pushHead c.toNat b else s.pushTail c.toNat b)
  | pop {c : Byte} (hc : s.build.hasChain c) (h0 : c.toNat ≠ SPARE) : Effect s (.chainPop c) (s.popHead c.toNat).2
  | remove {c : Byte} {b : Handle} {t : State} (hc : s.build.hasChain c) (h0 : c.toNat ≠ SPARE) (hb : s.build.hasBuffer b)
      (hloc : (s.buf b).loc = .chain c.toNat) (h : s.remove c.toNat b = some t) : Effect s (.chainRemove c b) t
  | setlen {b : Handle} {v : Half} (hb : s.build.hasBuffer b) (hv : v.toNat ≤ s.build.bufCap) (hheld : s.hostHeld b) :
      Effect s (.bufSetlen b v) (s.setBuf b fun x => { x with len := v })
  | setchan {b : Handle} {v : BitVec 4} (hb : s.build.hasBuffer b) (hheld : s.hostHeld b) :
      Effect s (.bufSetchan b v) (s.setBuf b fun x => { x with chan := v })
  -- the accumulator and the header unit
  | csa (i : Instr) (a : Csa) (hi : 0x20 ≤ i.opcode.toNat ∧ i.opcode.toNat ≤ 0x25) : Effect s i (s.setCsa a)
  | buildEcho {b : Handle} {seq : Half} (hb : s.build.hasBuffer b) (hheld : s.hostHeld b) :
      Effect s (.buildEcho b seq) (s.buildEcho b seq)
  -- the SLIP framer
  | rxNothing {c x : Byte} (hc : s.build.hasChannel c) :
      Effect s (.slipRx c x) (s.setSlip c.toNat fun z => { z with rxesc := false, rxovf := false })
  | rxDrop {c x : Byte} (hc : s.build.hasChannel c) (hb : (s.slip c.toNat).rxbuf ≠ NONE) :
      Effect s (.slipRx c x) (s.rxDrop c.toNat (s.slip c.toNat).rxbuf)
  | rxQueue {c x : Byte} (hc : s.build.hasChannel c) (hb : (s.slip c.toNat).rxbuf ≠ NONE) (hspare : s.takeSpare.1 ≠ NONE) :
      Effect s (.slipRx c x) (s.takeSpare.2.rxQueue c (s.slip c.toNat).rxbuf s.takeSpare.1)
  | rxByte {c x : Byte} (hc : s.build.hasChannel c) (hb : (s.slip c.toNat).rxbuf ≠ NONE) :
      Effect s (.slipRx c x) (s.rxByte c (s.slip c.toNat).rxbuf x)
  | rxFirst {c x : Byte} (hc : s.build.hasChannel c) (hb : (s.slip c.toNat).rxbuf = NONE) (hspare : s.takeSpare.1 ≠ NONE) :
      Effect s (.slipRx c x) ((s.takeSpare.2.loadRx c.toNat s.takeSpare.1).rxByte c s.takeSpare.1 x)
  | tx {c : Byte} {t : State} (hc : s.build.hasChannel c) (hcur : (s.slip c.toNat).txcur ≠ NONE) (h : TxStep s c.toNat t) :
      Effect s (.slipTx c) t
  | txFirst {c : Byte} {t : State} (hc : s.build.hasChannel c) (hcur : (s.slip c.toNat).txcur = NONE)
      (hhead : (s.popHead (txChain c.toNat)).1 ≠ NONE)
      (h : TxStep ((s.popHead (txChain c.toNat)).2.loadTx c.toNat (s.popHead (txChain c.toNat)).1 (startPhase s)) c.toNat t) :
      Effect s (.slipTx c) t
  -- connection slots
  | init {k : Byte} {port : Half} (hk : s.build.hasSlot k) :
      Effect s (.connInit k port) ((s.resetSlot k.toNat).setConn k.toNat fun x =>
        { x with proto := protoOf (s.regs.arg0.getLsbD 0), lport := port })
  | reg {k : Byte} {r : Bool} (hk : s.build.hasSlot k) :
      Effect s (.connReg k r) (s.setConn k.toNat fun x => { x with reg := r })
  | reset {k : Byte} (hk : s.build.hasSlot k) : Effect s (.connReset k) (s.resetSlot k.toNat)
  | setremote {k : Byte} {port : Half} (hk : s.build.hasSlot k) (hstate : (s.conn k.toNat).state = .closed) :
      Effect s (.connSetremote k port) (s.setConn k.toNat fun x =>
        { x with raddr := s.regs.argaddr, rport := port, rbound := true })
  | openUdp {k : Byte} (hk : s.build.hasSlot k) (hstate : (s.conn k.toNat).state = .closed)
      (hproto : (s.conn k.toNat).proto = .udp) :
      Effect s (.connOpen k) (s.setConn k.toNat fun x => { x with state := .opened, events := x.events ||| evOpened })
  | openTcp {k : Byte} (hk : s.build.hasSlot k) (hstate : (s.conn k.toNat).state = .closed)
      (hproto : (s.conn k.toNat).proto = .tcp) :
      Effect s (.connOpen k) (s.setConn k.toNat fun x =>
        { x with rbound := false, raddr := zeroAddr, rport := 0, sndSeq := s.regs.arg0, rcvAck := 0, state := .listen })
  | connect {k : Byte} {port : Half} (hk : s.build.hasSlot k) (hproto : (s.conn k.toNat).proto = .tcp)
      (hstate : (s.conn k.toNat).state = .closed) :
      Effect s (.connConnect k port) (s.setConn k.toNat fun x =>
        { x with raddr := s.regs.argaddr, rport := port, rbound := true, sndSeq := s.regs.arg0, rcvAck := 0,
                 state := .synSent, synDue := true, retxCnt := 0 })
  | closeOpened {k : Byte} (hk : s.build.hasSlot k) (hstate : (s.conn k.toNat).state = .opened) :
      Effect s (.connClose k) (s.setConn k.toNat fun x => { x with state := .closing })
  | abandon {k : Byte} (hk : s.build.hasSlot k)
      (hstate : (s.conn k.toNat).state = .listen ∨ (s.conn k.toNat).state = .synSent ∨ (s.conn k.toNat).state = .synRcvd) :
      Effect s (.connClose k) (s.abandon k.toNat)
  | listener {k : Byte} {v : Bool} (hk : s.build.hasSlot k) :
      Effect s (.connListener k v) (s.setConn k.toNat fun x => { x with listener := v })
  | events {k : Byte} (hk : s.build.hasSlot k) :
      Effect s (.connEvents k) (s.setConn k.toNat fun x => { x with events := 0 })
  | getremote {k : Byte} (hk : s.build.hasSlot k) : Effect s (.connGetremote k) (s.setArgaddr (s.conn k.toNat).raddr)
  | retxDue {k : Byte} (hk : s.build.hasSlot k) :
      Effect s (.connTimeout k) (s.setConn k.toNat fun y => { y with retxDue := true })
  | gaveup {k : Byte} (hk : s.build.hasSlot k) : Effect s (.connTimeout k) (s.raiseEvent k.toNat evGaveup)
  -- streams
  | read {k : Byte} {n : BitVec 3} (hk : s.build.hasSlot k) :
      Effect s (.connRead k n) (State.readLoop k.toNat (n.toNat + 2) n.toNat [] s).2
  | fill {k : Byte} {n : BitVec 3} {d : List Byte} (hk : s.build.hasSlot k)
      (hd : d.length ≤ s.build.fifoCap - (s.conn k.toNat).wfifo.length) :
      Effect s (.connWrite k n) (s.fillWfifo k.toNat d)
  | send {k : Byte} {n : BitVec 3} {d e : List Byte} (hk : s.build.hasSlot k)
      (hstate : (s.conn k.toNat).state = .opened)
      (hd : d.length ≤ s.build.fifoCap - (s.conn k.toNat).wfifo.length)
      (he : e.length ≤ (s.fillWfifo k.toNat d).maxPay k.toNat - ((s.fillWfifo k.toNat d).conn k.toNat).wfifo.length)
      (hspare : (s.fillWfifo k.toNat d).takeSpare.1 ≠ NONE) :
      Effect s (.connWrite k n) (((s.fillWfifo k.toNat d).takeSpare.2.setConn k.toNat fun x => { x with wfifo := [] }).sendData
        k.toNat (s.fillWfifo k.toNat d).takeSpare.1 (((s.fillWfifo k.toNat d).conn k.toNat).wfifo ++ e))
  | update {k : Byte} (hk : s.build.hasSlot k) : Effect s (.connUpdate k) (s.updateSlot k.toNat)
  | updateAll : Effect s (.connUpdate 0xFF) (s.updateAll (List.range s.build.nconn))
  | accept {b : Handle} {p : Byte} {h n k : Nat} {c : Claim} {t : State} (hb : s.build.hasBuffer b) (hheld : s.hostHeld b)
      (hsniff : s.sniff b = .packet .okay p h n) (hoffer : s.offer b p h n (List.range s.build.nconn) = some (k, c, t)) :
      Effect s (.connAccept b) (t.settled b c)
  -- reset
  | softReset : Effect s .softReset s.softReset

/-- Why a command past its checks can have no next state: the walk of R113 or the phase of R225 is lost (log entries 7 and 8). -/
inductive Stuck (s : State) : Instr → Prop
  | remove {c : Byte} {b : Handle} (hc : s.build.hasChain c) (hb : s.build.hasBuffer b)
      (hloc : (s.buf b).loc = .chain c.toNat) (h : s.remove c.toNat b = none) : Stuck s (.chainRemove c b)
  | tx {c : Byte} (hc : s.build.hasChannel c) (hcur : (s.slip c.toNat).txcur ≠ NONE) (h : (s.slip c.toNat).txph = .idle) :
      Stuck s (.slipTx c)
  | txFirst {c : Byte} (hc : s.build.hasChannel c)
      (h : (((s.popHead (txChain c.toNat)).2.loadTx c.toNat (s.popHead (txChain c.toNat)).1 (startPhase s)).slip c.toNat).txph =
        .idle) : Stuck s (.slipTx c)

end Sys2Proof.Machine

/-! #### The checks of a command (60_exceptions.md R321, R322) -/

namespace Sys2Proof.Machine

/-- The code of the first check of R322 that fails. -/
def errorOf (i : Instr) (s : State) : Option Byte := (operandCode i s).or (stateCode i s)

/-- A command past its checks: it writes `op` and its results over a state that `P` allows, or it faults, for which `Q` gives the
reason. -/
def Ends (op : Byte) (P : State → Prop) (Q : Prop) (o : Answer) : Prop :=
  (∃ u r0 r1, P u ∧ o = u.done op r0 r1) ∨ (∃ f, o = .fault f) ∧ Q

/-- `o` answers the error `code`, and without one it ends as `Ends` says. -/
def Checked (s : State) (op : Byte) (P : State → Prop) (Q : Prop) (code : Option Byte) (o : Answer) : Prop :=
  (∀ e, code = some e → o = .next (s.errored op e)) ∧ (code = none → Ends op P Q o)

section
variable {s : State} {op : Byte} {P : State → Prop} {Q : Prop} {code : Option Byte} {o : Answer}

theorem Checked.ends (h : Ends op P Q o) : Checked s op P Q none o := ⟨nofun, fun _ => h⟩

theorem Checked.done {u : State} {r0 r1 : Word} (h : P u) : Checked s op P Q none (u.done op r0 r1) :=
  .ends (.inl ⟨u, r0, r1, h, rfl⟩)

/-- One check more, made before the others. -/
theorem Checked.check {p q : Prop} [Decidable p] [Decidable q] {e : CmdError} (hpq : p ↔ q)
    (h : ¬ q → Checked s op P Q code o) : Checked s op P Q (if p then some (errCode e) else code) (if q then s.fail op e else o) := by
  by_cases hq : q
  · rw [if_pos (hpq.2 hq), if_pos hq]
    refine ⟨fun e' he => ?_, nofun⟩
    cases he
    rfl
  · rw [if_neg (mt hpq.1 hq), if_neg hq]
    exact h hq

end

/-! Which checks a command makes, by the operands it has. -/

section
variable {i : Instr} {s : State} {b : Handle} {c k : Byte}

theorem errorOf_of_none (hc : chainOperand i = none) (hh : handleOperand i = none) (hk : slotOperand i = none)
    (hd : channelOperand i = none) :
    errorOf i s = if outOfRange s i = true then some (errCode .range) else stateCode i s := by
  by_cases h : outOfRange s i = true <;> simp [errorOf, operandCode, hc, hh, hk, hd, h, errCode]

theorem errorOf_of_handle (hc : chainOperand i = none) (hh : handleOperand i = some b) (hk : slotOperand i = none)
    (hd : channelOperand i = none) :
    errorOf i s = if ¬ s.build.hasBuffer b then some (errCode .handle)
      else if outOfRange s i = true then some (errCode .range) else stateCode i s := by
  by_cases hb : s.build.nbuf ≤ b.toNat <;> by_cases h : outOfRange s i = true <;>
    simp [errorOf, operandCode, hc, hh, hk, hd, hb, h, errCode]

theorem errorOf_of_slot (hc : chainOperand i = none) (hh : handleOperand i = none) (hk : slotOperand i = some k)
    (hd : channelOperand i = none) (hi : i ≠ .connUpdate 0xFF#8) :
    errorOf i s = if ¬ s.build.hasSlot k then some (errCode .slot)
      else if outOfRange s i = true then some (errCode .range) else stateCode i s := by
  by_cases hb : s.build.nconn ≤ k.toNat
  · simp [errorOf, operandCode, hc, hh, hk, hb, hi, errCode]
  · by_cases h : outOfRange s i = true <;> simp [errorOf, operandCode, hc, hh, hk, hd, hb, h, errCode]

theorem channelCheck_iff : c = 0#8 ∨ s.build.nchan < c.toNat ↔ ¬ s.build.hasChannel c := by
  have hzero : c = 0#8 ↔ c.toNat = 0 := toNat_eq_spare_iff.symm
  rw [hzero]
  unfold Config.hasChannel
  omega

theorem errorOf_of_channel (hc : chainOperand i = none) (hh : handleOperand i = none) (hk : slotOperand i = none)
    (hd : channelOperand i = some c) (hr : outOfRange s i = false) (hs : stateCode i s = none) :
    errorOf i s = if ¬ s.build.hasChannel c then some (errCode .slot) else none := by
  by_cases h : c = 0#8 ∨ s.build.nchan < c.toNat
  · rw [if_pos (channelCheck_iff.1 h)]
    simp [errorOf, operandCode, hc, hh, hk, hd, h, errCode]
  · rw [if_neg (mt channelCheck_iff.2 h)]
    obtain ⟨h0, hle⟩ := not_or.1 h
    simp [errorOf, operandCode, hc, hh, hk, hd, hr, hs, h0, hle]

theorem chainOperandCheck_iff {spare : Bool} :
    2 + s.build.nchan < c.toNat ∨ c = 0#8 ∧ spare = false ↔ ¬ s.build.hasChain c ∨ c.toNat = SPARE ∧ spare = false := by
  rw [toNat_eq_spare_iff]
  unfold Config.hasChain
  rw [Nat.not_le]
  rfl

theorem errorOf_of_chain {spare : Bool} (hc : chainOperand i = some (c, spare)) (hk : slotOperand i = none)
    (hd : channelOperand i = none) (hr : outOfRange s i = false) :
    errorOf i s = if ¬ s.build.hasChain c ∨ c.toNat = SPARE ∧ spare = false then some (errCode .chain)
      else if (handleOperand i).any (fun b => decide (s.build.nbuf ≤ b.toNat)) = true then some (errCode .handle)
      else stateCode i s := by
  by_cases h : 2 + s.build.nchan < c.toNat ∨ c = 0#8 ∧ spare = false
  · rw [if_pos (chainOperandCheck_iff.1 h)]
    simp [errorOf, operandCode, hc, h, errCode]
  · rw [if_neg (mt chainOperandCheck_iff.2 h)]
    obtain ⟨hle, h0⟩ := not_or.1 h
    by_cases hb : (handleOperand i).any (fun b => decide (s.build.nbuf ≤ b.toNat)) = true <;>
      simp [errorOf, operandCode, hc, hk, hd, hr, hle, h0, hb, errCode]

end

/-! The same, where the rest of the command is given. -/

section
variable {s : State} {i : Instr} {b : Handle} {c k : Byte} {op : Byte} {P : State → Prop} {Q : Prop} {code : Option Byte} {o : Answer}

theorem Checked.noOperand (hc : chainOperand i = none) (hh : handleOperand i = none) (hk : slotOperand i = none)
    (hd : channelOperand i = none) (hr : outOfRange s i = false) (hs : stateCode i s = none) (h : Ends op P Q o) :
    Checked s op P Q (errorOf i s) o := by
  rw [errorOf_of_none hc hh hk hd, hr, if_neg Bool.false_ne_true, hs]
  exact .ends h

theorem Checked.handle (hc : chainOperand i = none) (hh : handleOperand i = some b) (hk : slotOperand i = none)
    (hd : channelOperand i = none) (hr : outOfRange s i = false)
    (h : s.build.hasBuffer b → Checked s op P Q (stateCode i s) o) :
    Checked s op P Q (errorOf i s) (if ¬ s.build.hasBuffer b then s.fail op .handle else o) := by
  rw [errorOf_of_handle hc hh hk hd, hr, if_neg Bool.false_ne_true]
  exact .check Iff.rfl fun hb => h (not_not.1 hb)

theorem Checked.handleRange {p : Prop} [Decidable p] (hc : chainOperand i = none) (hh : handleOperand i = some b)
    (hk : slotOperand i = none) (hd : channelOperand i = none) (hr : outOfRange s i = true ↔ p)
    (h : s.build.hasBuffer b → ¬ p → Checked s op P Q (stateCode i s) o) :
    Checked s op P Q (errorOf i s)
      (if ¬ s.build.hasBuffer b then s.fail op .handle else if p then s.fail op .range else o) := by
  rw [errorOf_of_handle hc hh hk hd]
  exact .check Iff.rfl fun hb => .check hr (h (not_not.1 hb))

theorem Checked.slot (hc : chainOperand i = none) (hh : handleOperand i = none) (hk : slotOperand i = some k)
    (hd : channelOperand i = none) (hi : i ≠ .connUpdate 0xFF#8) (hr : outOfRange s i = false)
    (h : s.build.hasSlot k → Checked s op P Q (stateCode i s) o) :
    Checked s op P Q (errorOf i s) (if ¬ s.build.hasSlot k then s.fail op .slot else o) := by
  rw [errorOf_of_slot hc hh hk hd hi, hr, if_neg Bool.false_ne_true]
  exact .check Iff.rfl fun hb => h (not_not.1 hb)

theorem Checked.slotRange {p : Prop} [Decidable p] (hc : chainOperand i = none) (hh : handleOperand i = none)
    (hk : slotOperand i = some k) (hd : channelOperand i = none) (hi : i ≠ .connUpdate 0xFF#8) (hr : outOfRange s i = true ↔ p)
    (h : s.build.hasSlot k → ¬ p → Checked s op P Q (stateCode i s) o) :
    Checked s op P Q (errorOf i s) (if ¬ s.build.hasSlot k then s.fail op .slot else if p then s.fail op .range else o) := by
  rw [errorOf_of_slot hc hh hk hd hi]
  exact .check Iff.rfl fun hb => .check hr (h (not_not.1 hb))

theorem Checked.channel (hc : chainOperand i = none) (hh : handleOperand i = none) (hk : slotOperand i = none)
    (hd : channelOperand i = some c) (hr : outOfRange s i = false) (hs : stateCode i s = none)
    (h : s.build.hasChannel c → Ends op P Q o) :
    Checked s op P Q (errorOf i s) (if ¬ s.build.hasChannel c then s.fail op .slot else o) := by
  rw [errorOf_of_channel hc hh hk hd hr hs]
  exact .check Iff.rfl fun hb => .ends (h (not_not.1 hb))

theorem Checked.chain (hc : chainOperand i = some (c, true)) (hh : handleOperand i = none) (hk : slotOperand i = none)
    (hd : channelOperand i = none) (hr : outOfRange s i = false) (hs : stateCode i s = none)
    (h : s.build.hasChain c → Ends op P Q o) :
    Checked s op P Q (errorOf i s) (if ¬ s.build.hasChain c then s.fail op .chain else o) := by
  rw [errorOf_of_chain hc hk hd hr, hh, hs]
  exact .check (by simp) fun hb => .ends (h (not_not.1 hb))

theorem Checked.chainNotSpare (hc : chainOperand i = some (c, false)) (hk : slotOperand i = none)
    (hd : channelOperand i = none) (hr : outOfRange s i = false)
    (h : s.build.hasChain c → c.toNat ≠ SPARE → Checked s op P Q
      (if (handleOperand i).any (fun b => decide (s.build.nbuf ≤ b.toNat)) = true then some (errCode .handle)
        else stateCode i s) o) :
    Checked s op P Q (errorOf i s) (if ¬ s.build.hasChain c ∨ c.toNat = SPARE then s.fail op .chain else o) := by
  rw [errorOf_of_chain hc hk hd hr]
  refine .check (by simp) fun hb => ?_
  obtain ⟨hchain, h0⟩ := not_or.1 hb
  exact h (not_not.1 hchain) h0

/-- The check of R322 item 3 for a host-held buffer. -/
theorem Checked.held (hn : needsHeld i = true) (hh : handleOperand i = some b)
    (h : s.hostHeld b → Checked s op P Q (stateCode i s) o) :
    Checked s op P Q (stateCode i s) (if ¬ s.hostHeld b then s.fail op .busy else o) := by
  by_cases hheld : s.hostHeld b
  · rw [if_neg (not_not_intro hheld)]
    exact h hheld
  · have hcode : stateCode i s = some (errCode .busy) := by simp [stateCode, hn, hh, hheld, errCode]
    rw [if_pos hheld, hcode]
    exact ⟨fun e he => by cases he; rfl, nofun⟩

/-- A command that no check of the state stops. -/
theorem Checked.passed {u : State} {r0 r1 : Word} (hcode : code = none) (h : P u) :
    Checked s op P Q code (u.done op r0 r1) := hcode ▸ .done h

theorem Ends.done {u : State} {r0 r1 : Word} (h : P u) : Ends op P Q (u.done op r0 r1) := .inl ⟨u, r0, r1, h, rfl⟩

end

/-! #### Data bytes only -/

/-- `t` is `s` with other data bytes, its memory canonical if that of `s` is. -/
def MemEdit (s t : State) : Prop := ∃ m : Memory, t = { s with mem := m } ∧ (s.mem.wf → m.wf)

section
variable {s t : State}

theorem MemEdit.refl (s : State) : MemEdit s s := ⟨s.mem, rfl, id⟩

theorem MemEdit.writeBytes (h : MemEdit s t) (b : Handle) (o : Nat) (d : List Byte) : MemEdit s (t.writeBytes b o d) := by
  obtain ⟨m, rfl, hm⟩ := h
  exact ⟨_, rfl, fun hwf => Memory.wf_putAll _ _ _ (hm hwf)⟩

theorem MemEdit.fillL4Csum (h : MemEdit s t) (b : Handle) (n : Nat) (p : Byte) (f : Nat) (kind : L4Kind) :
    MemEdit s (t.fillL4Csum b n p f kind) :=
  (h.writeBytes b _ _).writeBytes b _ _

theorem makePong_memEdit (s : State) (b : Handle) (h : Nat) : MemEdit s (s.makePong b h) := by
  have hfilled : MemEdit s (s.pongFilled b h) := ((((MemEdit.refl s).writeBytes _ _ _).writeBytes _ _ _).writeBytes _ _ _).fillL4Csum _ _ _ _ _
  cases hv : s.build.ipv
  · exact makePong_v4 hv ▸ (hfilled.writeBytes _ _ _).writeBytes _ _ _
  · exact makePong_v6 hv ▸ hfilled

end

/-! #### The commands -/

section
variable {s : State} {i : Instr} {b : Handle} {o : Half} {n : Nat} {c k : Byte} {op : Byte}

theorem bufRead_checked (hc : chainOperand i = none) (hh : handleOperand i = some b) (hk : slotOperand i = none)
    (hd : channelOperand i = none) (hr : outOfRange s i = decide (s.build.bufCap < o.toNat + n)) (hs : stateCode i s = none) :
    Checked s op (Effect s i) (Stuck s i) (errorOf i s) (bufRead op n b o s) :=
  .handleRange hc hh hk hd (by simp [hr, Config.inData]) fun _ _ => .passed hs (.nothing i)

theorem bufWrite_checked (hc : chainOperand i = none) (hh : handleOperand i = some b) (hk : slotOperand i = none)
    (hd : channelOperand i = none) (hr : outOfRange s i = decide (s.build.bufCap < o.toNat + n)) (hn : needsHeld i = true)
    (hs : s.hostHeld b → stateCode i s = none) : Checked s op (Effect s i) (Stuck s i) (errorOf i s) (bufWrite op n b o s) :=
  .handleRange hc hh hk hd (by simp [hr, Config.inData]) fun _ _ => .held hn hh fun hheld =>
    .passed (hs hheld) (.data i _ (s.writeBytes_wf b o.toNat _))

end

section
variable (s : State)

/-- The body of `exec i`, whose checks and effect are claimed. -/
def ExecChecked (i : Instr) (o : Answer) : Prop := Checked s i.opcode (Effect s i) (Stuck s i) (errorOf i s) o

/-! The pool and its chains. -/

theorem execAddSpare_checked (b : Handle) : ExecChecked s (.addSpare b) (execAddSpare b s) :=
  .handle rfl rfl rfl rfl rfl fun hb => .held rfl rfl fun hheld =>
    .passed (by simp [stateCode, handleOperand, hheld]) (.release hb hheld)

theorem execQueue_checked (b : Handle) : ExecChecked s (.queue b) (execQueue b s) := by
  refine .handle rfl rfl rfl rfl rfl fun hb => .held rfl rfl fun hheld => ?_
  have hcode : stateCode (.queue b) s = none := by simp [stateCode, handleOperand, hheld]
  dsimp only
  split
  · exact .passed hcode (.nothing _)
  · next h => exact .passed hcode (.queue hb hheld h)

theorem execRef_checked (b : Handle) : ExecChecked s (.ref b) (execRef b s) := by
  refine .handle rfl rfl rfl rfl rfl fun hb => ?_
  have hcode : stateCode (.ref b) s = if (s.buf b).loc = .chain SPARE then some (errCode .busy)
      else if (s.buf b).ref = 255 then some (errCode .refcnt) else none := rfl
  rw [hcode]
  exact .check Iff.rfl fun hloc => .check Iff.rfl fun _ => .done (.ref hb hloc)

theorem execUnref_checked (b : Handle) : ExecChecked s (.unref b) (execUnref b s) := by
  refine .handle rfl rfl rfl rfl rfl fun hb => ?_
  have hcode : stateCode (.unref b) s = if (s.buf b).ref = 0 then some (errCode .refcnt) else none := rfl
  rw [hcode]
  exact .check Iff.rfl fun href => .done (.unref hb href)

theorem execChainPush_checked (c : Byte) (b : Handle) (urgent : Bool) :
    ExecChecked s (.chainPush c b urgent) (execChainPush c b urgent s) :=
  .chainNotSpare rfl rfl rfl rfl fun hc h0 => .check (by simp [handleOperand]) fun hb => .held rfl rfl fun hheld =>
    .passed (by simp [stateCode, handleOperand, hheld]) (.push hc h0 (not_not.1 hb) hheld)

theorem execChainRemove_checked (c : Byte) (b : Handle) : ExecChecked s (.chainRemove c b) (execChainRemove c b s) := by
  refine .chainNotSpare rfl rfl rfl rfl fun hc h0 => .check (by simp [handleOperand]) fun hb => ?_
  have hcode : stateCode (.chainRemove c b) s = if (s.buf b).loc ≠ .chain c.toNat then some (errCode .notMember) else none := rfl
  rw [hcode]
  refine .check Iff.rfl fun hloc => .ends ?_
  cases h : s.remove c.toNat b with
  | none => exact .inr ⟨⟨_, rfl⟩, .remove hc (not_not.1 hb) (not_not.1 hloc) h⟩
  | some t => exact .done (.remove hc h0 (not_not.1 hb) (not_not.1 hloc) h)

/-! The data of a buffer, the accumulator and the header unit. -/

theorem execBufSetlen_checked (b : Handle) (v : Half) : ExecChecked s (.bufSetlen b v) (execBufSetlen b v s) :=
  .handleRange rfl rfl rfl rfl (by simp [outOfRange]) fun hb hv => .held rfl rfl fun hheld =>
    .passed (by simp [stateCode, handleOperand, hheld]) (.setlen hb (Nat.not_lt.1 hv) hheld)

theorem execBufSetchan_checked (b : Handle) (v : BitVec 4) : ExecChecked s (.bufSetchan b v) (execBufSetchan b v s) :=
  .handle rfl rfl rfl rfl rfl fun hb => .held rfl rfl fun hheld =>
    .passed (by simp [stateCode, handleOperand, hheld]) (.setchan hb hheld)

theorem execCsAddbuf_checked (b : Handle) (o : Half) : ExecChecked s (.csAddbuf b o) (execCsAddbuf b o s) :=
  .handleRange rfl rfl rfl rfl (by simp [outOfRange, Config.inData]) fun _ _ => .passed rfl (.csa _ _ (by simp [Instr.opcode]))

theorem execCsAddaddr_checked (sel : Byte) : ExecChecked s (.csAddaddr sel) (execCsAddaddr sel s) := by
  have heffect (a : Csa) : Effect s (.csAddaddr sel) (s.setCsa a) := .csa _ _ (by simp [Instr.opcode])
  have hcode : errorOf (.csAddaddr sel) s = if 1 < sel.toNat then some (errCode .range) else none := by
    rw [errorOf_of_none rfl rfl rfl rfl]
    exact if_congr (by simp [outOfRange]) rfl rfl
  rw [ExecChecked, hcode]
  by_cases h : 1 < sel.toNat
  · rw [if_pos h, execCsAddaddr_range h]
    exact ⟨fun e he => by cases he; rfl, nofun⟩
  · rw [if_neg h, execCsAddaddr]
    split
    · exact .done (heffect _)
    · next h0 =>
      have h1 : sel = 1 := by
        rw [← BitVec.toNat_inj] at h0 ⊢
        simp only [BitVec.ofNat_eq_ofNat, BitVec.toNat_ofNat] at h0 ⊢
        omega
      rw [if_pos h1]
      exact .done (heffect _)

theorem execSniff_checked (b : Handle) : ExecChecked s (.sniff b) (execSniff b s) := by
  refine .handle rfl rfl rfl rfl rfl fun _ => ?_
  cases s.sniff b <;> exact .passed rfl (.nothing _)

theorem execPingToPong_checked (b : Handle) : ExecChecked s (.pingToPong b) (execPingToPong b s) := by
  refine .handle rfl rfl rfl rfl rfl fun _ => .held rfl rfl fun hheld => ?_
  split
  · next p h n hs =>
    obtain ⟨m, hm, hwf⟩ := makePong_memEdit s b h
    exact .passed (by simp [stateCode, handleOperand, hheld, hs]) (hm ▸ .data _ m hwf)
  · next hs =>
    have hcode : stateCode (.pingToPong b) s = some (errCode .notEcho) := by
      have hpass : (true && decide ((s.buf b).loc ≠ .off)) ≠ true := by simp [hheld]
      simp only [stateCode, needsHeld, handleOperand, Option.any_some, if_neg hpass]
      rfl
    rw [hcode]
    exact ⟨fun e he => by cases he; rfl, nofun⟩

theorem execBuildEcho_checked (b : Handle) (seq : Half) : ExecChecked s (.buildEcho b seq) (execBuildEcho b seq s) :=
  .handle rfl rfl rfl rfl rfl fun hb => .held rfl rfl fun hheld =>
    .passed (by simp [stateCode, handleOperand, hheld]) (.buildEcho hb hheld)

/-! The SLIP framer. -/

theorem slipStore_answer (c : Byte) (b : Handle) (x : Byte) :
    slipRxByte c b x s = (s.rxByte c b x).done 0x40 0 0 := by
  unfold slipRxByte State.rxByte
  split
  · rfl
  · split <;> rfl

theorem execSlipRx_checked (c x : Byte) : ExecChecked s (.slipRx c x) (execSlipRx c x s) := by
  refine .channel rfl rfl rfl rfl rfl rfl fun hc => ?_
  dsimp only
  by_cases hb : (s.slip c.toNat).rxbuf = NONE
  · simp only [if_pos hb]
    split
    · exact .done (.rxNothing hc)
    · split
      · exact .done (.nothing _)
      · next hspare => exact slipStore_answer _ c _ x ▸ .done (.rxFirst hc hb hspare)
  · simp only [if_neg hb]
    split
    · unfold slipRxEnd
      dsimp only
      split
      · exact .done (.rxDrop hc hb)
      · split
        · exact .done (.nothing _)
        · next hspare => exact .done (.rxQueue hc hb hspare)
    · exact slipStore_answer s c _ x ▸ .done (.rxByte hc hb)

/-- The step of R225 ends as `TxStep` says, or its phase is lost. -/
theorem slipTxStep_ends (c : Byte) : Ends 0x41 (TxStep s c.toNat) ((s.slip c.toNat).txph = .idle) (slipTxStep c s) := by
  cases hph : (s.slip c.toNat).txph
  case idle =>
    have hlost : slipTxStep c s = .fault .slipPhaseLost := by simp only [slipTxStep, hph]
    exact hlost ▸ .inr ⟨⟨_, rfl⟩, rfl⟩
  case lead => exact slipTxStep_lead hph ▸ .done (.advance _ (by simp [hph]) (by simp))
  case escDc => exact slipTxStep_escDc hph ▸ .done (.advance _ (by simp [hph]) (by simp))
  case escDd => exact slipTxStep_escDd hph ▸ .done (.advance _ (by simp [hph]) (by simp))
  case data =>
    rw [slipTxStep_data hph, slipTxData]
    split
    · exact .done (.last hph)
    · dsimp only
      split
      · exact .done (.advance _ (by simp [hph]) (by simp))
      · split
        · exact .done (.advance _ (by simp [hph]) (by simp))
        · exact .done (.advance _ (by simp [hph]) (by simp [hph]))

theorem execSlipTx_checked (c : Byte) : ExecChecked s (.slipTx c) (execSlipTx c s) := by
  refine .channel rfl rfl rfl rfl rfl rfl fun hc => ?_
  have htx {u : State} (h : ∀ t, TxStep u c.toNat t → Effect s (.slipTx c) t)
      (hstuck : (u.slip c.toNat).txph = .idle → Stuck s (.slipTx c)) :
      Ends 0x41 (Effect s (.slipTx c)) (Stuck s (.slipTx c)) (slipTxStep c u) := by
    rcases slipTxStep_ends u c with ⟨t, r0, r1, ht, he⟩ | ⟨hfault, hph⟩
    · exact .inl ⟨t, r0, r1, h t ht, he⟩
    · exact .inr ⟨hfault, hstuck hph⟩
  split
  · next hcur =>
    dsimp only
    split
    · exact .done (.nothing _)
    · next hhead => exact htx (fun t ht => .txFirst hc hcur hhead ht) (.txFirst hc)
  · next hcur => exact htx (fun t ht => .tx hc hcur ht) (.tx hc hcur)

/-! The connection slots. -/

theorem execConnSetremote_checked (k : Byte) (port : Half) :
    ExecChecked s (.connSetremote k port) (execConnSetremote k port s) := by
  refine .slot rfl rfl rfl rfl nofun rfl fun hk => ?_
  have hcode : stateCode (.connSetremote k port) s =
      if (s.conn k.toNat).state ≠ .closed then some (errCode .state) else none := rfl
  rw [hcode]
  exact .check Iff.rfl fun hstate => .done (.setremote hk (not_not.1 hstate))

theorem execConnOpen_checked (k : Byte) : ExecChecked s (.connOpen k) (execConnOpen k s) := by
  refine .slot rfl rfl rfl rfl nofun rfl fun hk => ?_
  have hcode : stateCode (.connOpen k) s =
      if (s.conn k.toNat).state ≠ .closed then some (errCode .state)
      else if (s.conn k.toNat).lport = 0 then some (errCode .port) else none := rfl
  rw [hcode]
  refine .check Iff.rfl fun hstate => .check Iff.rfl fun _ => ?_
  cases hproto : (s.conn k.toNat).proto
  · exact .done (.openUdp hk (not_not.1 hstate) hproto)
  · exact .done (.openTcp hk (not_not.1 hstate) hproto)

theorem execConnConnect_checked (k : Byte) (port : Half) :
    ExecChecked s (.connConnect k port) (execConnConnect k port s) := by
  refine .slot rfl rfl rfl rfl nofun rfl fun hk => ?_
  have hcode : stateCode (.connConnect k port) s =
      if (s.conn k.toNat).proto ≠ .tcp then some (errCode .state)
      else if (s.conn k.toNat).state ≠ .closed then some (errCode .state)
      else if (s.conn k.toNat).lport = 0 then some (errCode .port) else none := by
    cases hproto : (s.conn k.toNat).proto <;> simp [stateCode, needsHeld, errCode, hproto]
  rw [hcode]
  exact .check Iff.rfl fun hproto => .check Iff.rfl fun hstate => .check Iff.rfl fun _ =>
    .done (.connect hk (not_not.1 hproto) (not_not.1 hstate))

theorem execConnClose_checked (k : Byte) : ExecChecked s (.connClose k) (execConnClose k s) := by
  refine .slot rfl rfl rfl rfl nofun rfl fun hk => ?_
  dsimp only
  cases hstate : (s.conn k.toNat).state
  case closed => exact .done (.nothing _)
  case closing => exact .done (.nothing _)
  case opened => exact .done (.closeOpened hk hstate)
  case listen => exact .done (.abandon hk (.inl hstate))
  case synSent => exact .done (.abandon hk (.inr (.inl hstate)))
  case synRcvd => exact .done (.abandon hk (.inr (.inr hstate)))

theorem execConnTimeout_checked (k : Byte) : ExecChecked s (.connTimeout k) (execConnTimeout k s) := by
  refine .slot rfl rfl rfl rfl nofun rfl fun hk => ?_
  dsimp only
  split
  · split
    · exact .passed rfl (.retxDue hk)
    · exact .passed rfl (.gaveup hk)
  · exact .passed rfl (.nothing _)

theorem execConnRead_checked (k : Byte) (n : BitVec 3) : ExecChecked s (.connRead k n) (execConnRead k n s) :=
  .slotRange rfl rfl rfl rfl nofun (by simp [outOfRange]) fun hk _ => .passed rfl (.read hk)

theorem length_take_min_le {n m : Nat} (d : List Byte) : (d.take (min n m)).length ≤ m :=
  (List.length_take_le _ _).trans (Nat.min_le_right n m)

theorem execConnWrite_checked (k : Byte) (n : BitVec 3) : ExecChecked s (.connWrite k n) (execConnWrite k n s) := by
  refine .slotRange rfl rfl rfl rfl nofun (by simp [outOfRange]) fun hk _ => ?_
  dsimp only
  split
  · exact .passed rfl (.nothing _)
  · next htakes =>
    have hstate : (s.conn k.toNat).state = .opened := not_not.1 (not_or.1 htakes).1
    unfold State.connWrite
    dsimp only
    split
    · exact .passed rfl (.fill hk (by simp))
    · split
      · exact .passed rfl (.fill hk (by simp))
      · next hspare =>
        exact .passed rfl (.send hk hstate (by simp) (length_take_min_le _) hspare)

theorem execConnUpdate_checked (k : Byte) : ExecChecked s (.connUpdate k) (execConnUpdate k s) := by
  unfold execConnUpdate
  split
  · next hall =>
    subst hall
    have hcode : errorOf (.connUpdate 0xFF#8) s = none := by
      simp [errorOf, operandCode, stateCode, chainOperand, handleOperand, slotOperand, channelOperand, outOfRange, needsHeld]
    exact .passed hcode .updateAll
  · next hall =>
    exact .slot rfl rfl rfl rfl (fun h => hall (Instr.connUpdate.inj h)) rfl fun hk => .passed rfl (.update hk)

theorem execConnAccept_checked (b : Handle) : ExecChecked s (.connAccept b) (execConnAccept b s) := by
  refine .handle rfl rfl rfl rfl rfl fun hb => .held rfl rfl fun hheld => ?_
  have hcode : stateCode (.connAccept b) s = none := by simp [stateCode, handleOperand, hheld]
  split
  · next p h n hsniff =>
    split
    · next r hoffer =>
      obtain ⟨k, c, t⟩ := r
      have heffect := Effect.accept hb hheld hsniff hoffer
      cases c <;> exact .passed hcode heffect
    · exact .passed hcode (.nothing _)
  · exact .passed hcode (.nothing _)

end

/-- Every command makes the checks of R322 in their order, and then has one of its effects or faults. -/
theorem exec_checked (s : State) (i : Instr) : ExecChecked s i (exec i s) := by
  cases i
  case nop => exact .noOperand rfl rfl rfl rfl rfl rfl (.done (.nothing _))
  case getSpare => exact .noOperand rfl rfl rfl rfl rfl rfl (.done .takeSpare)
  case addSpare b => exact execAddSpare_checked s b
  case queue b => exact execQueue_checked s b
  case ref b => exact execRef_checked s b
  case unref b => exact execUnref_checked s b
  case retained b => exact .handle rfl rfl rfl rfl rfl fun _ => .passed rfl (.nothing _)
  case bufInfo b => exact .handle rfl rfl rfl rfl rfl fun _ => .passed rfl (.nothing _)
  case chainPush c b urgent => exact execChainPush_checked s c b urgent
  case chainPop c => exact .chainNotSpare rfl rfl rfl rfl fun hc h0 => .passed rfl (.pop hc h0)
  case chainPeek c => exact .chain rfl rfl rfl rfl rfl rfl fun _ => .done (.nothing _)
  case chainRemove c b => exact execChainRemove_checked s c b
  case chainCount c => exact .chain rfl rfl rfl rfl rfl rfl fun _ => .done (.nothing _)
  case chainNext b => exact .handle rfl rfl rfl rfl rfl fun _ => .passed rfl (.nothing _)
  case bufRd8 b o => exact bufRead_checked rfl rfl rfl rfl rfl rfl
  case bufRd16 b o => exact bufRead_checked rfl rfl rfl rfl rfl rfl
  case bufRd32 b o => exact bufRead_checked rfl rfl rfl rfl rfl rfl
  case bufWr8 b o => exact bufWrite_checked rfl rfl rfl rfl rfl rfl fun h => by simp [stateCode, handleOperand, h]
  case bufWr16 b o => exact bufWrite_checked rfl rfl rfl rfl rfl rfl fun h => by simp [stateCode, handleOperand, h]
  case bufWr32 b o => exact bufWrite_checked rfl rfl rfl rfl rfl rfl fun h => by simp [stateCode, handleOperand, h]
  case bufSetlen b v => exact execBufSetlen_checked s b v
  case bufSetchan b v => exact execBufSetchan_checked s b v
  case csClear => exact .noOperand rfl rfl rfl rfl rfl rfl (.done (.csa _ _ (by simp [Instr.opcode])))
  case csAdd16 => exact .noOperand rfl rfl rfl rfl rfl rfl (.done (.csa _ _ (by simp [Instr.opcode])))
  case csAdd32 => exact .noOperand rfl rfl rfl rfl rfl rfl (.done (.csa _ _ (by simp [Instr.opcode])))
  case csAddbuf b o => exact execCsAddbuf_checked s b o
  case csAddaddr sel => exact execCsAddaddr_checked s sel
  case csFinal => exact .noOperand rfl rfl rfl rfl rfl rfl (.done (.nothing _))
  case sniff b => exact execSniff_checked s b
  case pingToPong b => exact execPingToPong_checked s b
  case buildEcho b seq => exact execBuildEcho_checked s b seq
  case slipRx c x => exact execSlipRx_checked s c x
  case slipTx c => exact execSlipTx_checked s c
  case slipState c => exact .channel rfl rfl rfl rfl rfl rfl fun _ => .done (.nothing _)
  case connInit k port => exact .slot rfl rfl rfl rfl nofun rfl fun hk => .passed rfl (.init hk)
  case connReg k r => exact .slot rfl rfl rfl rfl nofun rfl fun hk => .passed rfl (.reg hk)
  case connReset k => exact .slot rfl rfl rfl rfl nofun rfl fun hk => .passed rfl (.reset hk)
  case connSetremote k port => exact execConnSetremote_checked s k port
  case connOpen k => exact execConnOpen_checked s k
  case connConnect k port => exact execConnConnect_checked s k port
  case connClose k => exact execConnClose_checked s k
  case connUpdate k => exact execConnUpdate_checked s k
  case connTimeout k => exact execConnTimeout_checked s k
  case connAccept b => exact execConnAccept_checked s b
  case connRead k n => exact execConnRead_checked s k n
  case connWrite k n => exact execConnWrite_checked s k n
  case connStatus k => exact .slot rfl rfl rfl rfl nofun rfl fun _ => .passed rfl (.nothing _)
  case connEvents k => exact .slot rfl rfl rfl rfl nofun rfl fun hk => .passed rfl (.events hk)
  case connListener k v => exact .slot rfl rfl rfl rfl nofun rfl fun hk => .passed rfl (.listener hk)
  case connTcpinfo k => exact .slot rfl rfl rfl rfl nofun rfl fun _ => .passed rfl (.nothing _)
  case connGetremote k => exact .slot rfl rfl rfl rfl nofun rfl fun hk => .passed rfl (.getremote hk)
  case softReset => exact .noOperand rfl rfl rfl rfl rfl rfl (.done .softReset)

end Sys2Proof.Machine

/-! ### Claims about every command (60_exceptions.md R320 to R322) -/

namespace Sys2Proof.Machine

section
variable {i : Instr} {s t : State} {e : Byte}

theorem exec_of_errorOf (h : errorOf i s = some e) : exec i s = .next (s.errored i.opcode e) := (exec_checked s i).1 e h

theorem exec_ends (h : errorOf i s = none) : Ends i.opcode (Effect s i) (Stuck s i) (exec i s) := (exec_checked s i).2 h

/-- Every next state of a command: an error, which changes STATUS and the results only, or an effect and its results. -/
theorem exec_next (h : exec i s = .next t) :
    (∃ e, errorOf i s = some e ∧ t = s.errored i.opcode e) ∨
      errorOf i s = none ∧ ∃ u r0 r1, Effect s i u ∧ t = u.finish i.opcode 0 r0 r1 := by
  cases he : errorOf i s with
  | some e =>
    rw [exec_of_errorOf he] at h
    cases h
    exact .inl ⟨e, rfl, rfl⟩
  | none =>
    rcases exec_ends he with ⟨u, r0, r1, hu, hdone⟩ | ⟨⟨f, hfault⟩, -⟩
    · exact .inr ⟨rfl, u, r0, r1, hu, (u.done_eq_next _ r0 r1 t).1 (hdone.symm.trans h)⟩
    · rw [hfault] at h
      cases h

end

/-- Settles O26: a command that has an effect writes 0 to STATUS.ERR. -/
theorem errorsChangeOnlyStatus : Obligations.ErrorsChangeOnlyStatus := by
  intro i s t h
  rcases exec_next h with ⟨e, -, rfl⟩ | ⟨-, u, r0, r1, -, rfl⟩
  · exact ⟨rfl, fun _ => rfl⟩
  · exact ⟨rfl, fun hne => absurd rfl hne⟩

/-- Settles O27: `errorOf` is the table's code, and a command without one has an effect. -/
theorem errorCodesFollowTheTable : Obligations.ErrorCodesFollowTheTable := by
  intro i s
  refine ⟨fun e he => exec_of_errorOf (by simp [errorOf, he]), fun hnone e he => exec_of_errorOf (by simp [errorOf, hnone, he]),
    fun hnone hstate t h => ?_⟩
  rcases exec_next h with ⟨e, he, -⟩ | ⟨-, u, r0, r1, -, rfl⟩
  · simp [errorOf, hnone, hstate] at he
  · rfl

end Sys2Proof.Machine

/-! ### The bounds of every field (10_state.md R30, R41, R50 to R53)

`Bounded` is the shape of a state and the bounds of its fields, each under a name.  Every operation keeps it, whatever the pool holds;
so it is proved for the operations in the order of their definitions, and then for every effect of a command. -/

namespace Sys2Proof.Machine

/-- The state is shaped, and its fields are within their bounds. -/
structure Bounded (s : State) : Prop where
  valid : s.build.valid
  bufs_length : s.bufs.length = s.build.nbuf
  chains_length : s.chains.length = 3 + s.build.nchan
  slf_length : s.slf.length = s.build.nchan
  conns_length : s.conns.length = s.build.nconn
  len : ∀ x ∈ s.bufs, x.len.toNat ≤ s.build.bufCap
  phase : ∀ x ∈ s.slf, x.txcur = NONE ↔ x.txph = .idle
  slots : ∀ x ∈ s.conns, x.ok s.build
  hostaddr : addrOk s.build.ipv s.regs.hostaddr
  argaddr : addrOk s.build.ipv s.regs.argaddr
  mem : s.mem.wf

theorem bounded_iff {s : State} : Bounded s ↔ s.shaped ∧ s.fieldsOk := by
  constructor
  · rintro ⟨h1, h2, h3, h4, h5, h6, h7, h8, h9, h10, h11⟩
    exact ⟨⟨h1, h2, h3, h4, h5⟩, h6, h7, h8, h9, h10, h11⟩
  · rintro ⟨⟨h1, h2, h3, h4, h5⟩, h6, h7, h8, h9, h10, h11⟩
    exact ⟨h1, h2, h3, h4, h5, h6, h7, h8, h9, h10, h11⟩

theorem bounded_of_sound {s : State} (h : s.sound) : Bounded s := bounded_iff.2 ⟨h.1, h.2.1⟩

/-! #### Single updates -/

section
variable {s t : State} {b : Handle} {c k : Nat}

/-- A property of every element survives an update of one element that keeps it there. -/
theorem forall_mem_modify {α : Type} {P : α → Prop} {l : List α} {i : Nat} {f : α → α} (d : α) (h : ∀ x ∈ l, P x)
    (hf : i < l.length → P (f (l.getD i d))) : ∀ x ∈ l.modify i f, P x := by
  intro x hx
  obtain ⟨j, hj, rfl⟩ := List.mem_iff_getElem.1 hx
  rw [List.length_modify] at hj
  rw [List.getElem_modify]
  split
  · next hij =>
    subst hij
    simpa [List.getD, hj] using hf hj
  · exact h _ (List.getElem_mem hj)

theorem Bounded.buf_len (h : Bounded s) (b : Handle) : (s.buf b).len.toNat ≤ s.build.bufCap := by
  rcases Nat.lt_or_ge b.toNat s.bufs.length with hb | hb
  · rw [State.buf, List.getD_eq_getElem _ _ hb]
    exact h.len _ (List.getElem_mem hb)
  · simp [State.buf, List.getD, hb, absentBuffer]

theorem idleConn_ok (g : Config) (x : Conn) : x.idled.ok g := by
  simp [Conn.ok, Conn.idled, idleConn, zeroAddr, addrOk]

theorem Bounded.conn_ok (h : Bounded s) (k : Nat) : (s.conn k).ok s.build := by
  rcases Nat.lt_or_ge k s.conns.length with hk | hk
  · exact h.slots _ (conn_mem hk)
  · rw [State.conn, List.getD_eq_default _ _ hk]
    exact idleConn_ok _ idleConn

theorem Bounded.setBuf (h : Bounded s) {f : Buffer → Buffer}
    (hf : (s.buf b).len.toNat ≤ s.build.bufCap → (f (s.buf b)).len.toNat ≤ s.build.bufCap) : Bounded (s.setBuf b f) :=
  { h with
    bufs_length := (s.setBuf_bufs_length b f).trans h.bufs_length
    len := forall_mem_modify absentBuffer h.len fun _ => hf (h.buf_len b) }

theorem Bounded.setChain (h : Bounded s) (f : Chain → Chain) : Bounded (s.setChain c f) :=
  { h with chains_length := (s.setChain_chains_length c f).trans h.chains_length }

theorem Bounded.setSlip (h : Bounded s) {f : SlipChan → SlipChan}
    (hf : ((s.slip c).txcur = NONE ↔ (s.slip c).txph = .idle) → ((f (s.slip c)).txcur = NONE ↔ (f (s.slip c)).txph = .idle)) :
    Bounded (s.setSlip c f) :=
  { h with
    slf_length := (s.setSlip_slf_length c f).trans h.slf_length
    phase := forall_mem_modify idleChannel h.phase fun hi => hf (h.phase _ (slip_mem hi)) }

theorem Bounded.setConn (h : Bounded s) {f : Conn → Conn} (hf : (s.conn k).ok s.build → (f (s.conn k)).ok s.build) :
    Bounded (s.setConn k f) :=
  { h with
    conns_length := (s.setConn_conns_length k f).trans h.conns_length
    slots := forall_mem_modify idleConn h.slots fun _ => hf (h.conn_ok k) }

theorem Bounded.memEdit (h : Bounded s) (hst : MemEdit s t) : Bounded t := by
  obtain ⟨m, rfl, hm⟩ := hst
  exact { h with mem := hm h.mem }

theorem Bounded.writeBytes (h : Bounded s) (b : Handle) (o : Nat) (d : List Byte) : Bounded (s.writeBytes b o d) :=
  h.memEdit ((MemEdit.refl s).writeBytes b o d)

theorem Bounded.setCsa (h : Bounded s) (a : Csa) : Bounded (s.setCsa a) := { h with }

theorem Bounded.finish (h : Bounded s) (op err : Byte) (r0 r1 : Word) : Bounded (s.finish op err r0 r1) := { h with }

theorem Bounded.setArgaddr (h : Bounded s) {a : AddrWords} (ha : addrOk s.build.ipv a) : Bounded (s.setArgaddr a) :=
  { h with argaddr := ha }

theorem Bounded.setLoc (h : Bounded s) (b : Handle) (l : Loc) : Bounded (s.setLoc b l) := h.setBuf id

theorem Bounded.setNext (h : Bounded s) (b n : Handle) : Bounded (s.setNext b n) := h.setBuf id

/-! #### The pool's operations -/

theorem Bounded.pushTail (h : Bounded s) (c : Nat) (b : Handle) : Bounded (s.pushTail c b) := by
  unfold State.pushTail
  dsimp only
  split
  · exact (((h.setNext _ _).setChain _).setChain _).setLoc _ _
  · exact (((h.setNext _ _).setNext _ _).setChain _).setLoc _ _

theorem Bounded.pushHead (h : Bounded s) (c : Nat) (b : Handle) : Bounded (s.pushHead c b) :=
  ((h.setNext _ _).setChain _).setLoc _ _

theorem Bounded.popHead (h : Bounded s) (c : Nat) : Bounded (s.popHead c).2 := by
  rcases s.popHead_cases c with ⟨-, e⟩ | ⟨-, e⟩
  · exact e ▸ h
  · exact e ▸ ((h.setChain _).setNext _ _).setLoc _ _

theorem Bounded.takeSpare (h : Bounded s) : Bounded s.takeSpare.2 := by
  rcases s.takeSpare_cases with ⟨-, e⟩ | ⟨-, e⟩
  · exact e ▸ h
  · exact e ▸ (h.popHead SPARE).setBuf fun _ => Nat.zero_le _

theorem Bounded.release (h : Bounded s) (b : Handle) : Bounded (s.release b).2 := by
  rcases s.release_cases b with ⟨-, e⟩ | ⟨-, e⟩
  · exact e ▸ h.pushHead SPARE b
  · exact e ▸ h

theorem Bounded.remove (h : Bounded s) {b : Handle} (hr : s.remove c b = some t) : Bounded t := by
  rcases s.remove_cases c b with ⟨-, e⟩ | ⟨prev, -, e⟩
  · rw [e] at hr
    cases hr
  · rw [e] at hr
    cases hr
    refine Bounded.setLoc (Bounded.setNext (Bounded.setChain ?_ _) _ _) _ _
    split
    · exact h.setChain _
    · exact h.setNext _ _

theorem Bounded.dropRef (h : Bounded s) (b : Handle) : Bounded (s.dropRef b) := by
  unfold State.dropRef
  split
  · exact h
  · exact h.setBuf id

theorem Conn.ok_retx_none {g : Config} {x : Conn} (h : x.ok g) : Conn.ok g { x with retx := NONE } := by
  obtain ⟨hr, hw, hudp, hlisten, htcp, -, hsyn, hsynack, haddr⟩ := h
  exact ⟨hr, hw, hudp, hlisten, htcp, fun h => absurd rfl h, fun h => ⟨(hsyn h).1, rfl⟩, fun h => ⟨(hsynack h).1, rfl⟩, haddr⟩

theorem Bounded.dropRetx (h : Bounded s) (b : Handle) : Bounded (s.dropRetx b) := by
  unfold State.dropRetx
  split
  · exact (h.dropRef b).release b
  · exact h.dropRef b

theorem Bounded.releaseRetx (h : Bounded s) (k : Nat) : Bounded (s.releaseRetx k) := by
  by_cases hretx : (s.conn k).retx = NONE
  · rwa [s.releaseRetx_none k hretx]
  · exact State.releaseRetx_some hretx ▸ (h.dropRetx _).setConn Conn.ok_retx_none

theorem Bounded.releaseStaged (h : Bounded s) (k : Nat) : Bounded (s.releaseStaged k) := by
  by_cases hstaged : (s.conn k).staged = NONE
  · rwa [s.releaseStaged_none k hstaged]
  · exact State.releaseStaged_some hstaged ▸ ((h.setLoc _ _).release _).setConn id

theorem Bounded.resetSlot (h : Bounded s) (k : Nat) : Bounded (s.resetSlot k) :=
  ((h.releaseStaged k).releaseRetx k).setConn fun _ => idleConn_ok _ _

/-- A number that names no slot reads as an idle one. -/
theorem conn_of_length_le (h : s.conns.length ≤ k) : s.conn k = idleConn := by
  rw [State.conn, List.getD_eq_default _ _ h]

theorem releaseRetx_retx (s : State) (k : Nat) : ((s.releaseRetx k).conn k).retx = NONE := by
  rcases Nat.lt_or_ge k s.conns.length with hk | hk
  · rw [State.releaseRetx_conn hk]
  · rw [conn_of_length_le ((s.releaseRetx_slotEdit k).conns_length ▸ hk)]
    rfl

theorem Bounded.abandon (h : Bounded s) (k : Nat) : Bounded (s.abandon k) := by
  have hretx := releaseRetx_retx s k
  refine (h.releaseRetx k).setConn fun ⟨hr, hw, _, _, _, _, _, _, haddr⟩ => ?_
  exact ⟨hr, hw, fun _ => .inl rfl, nofun, fun _ h => absurd rfl h, fun h => absurd hretx h, nofun, nofun, haddr⟩

/-! #### Streams (R260 to R262) -/

theorem Bounded.refill (h : Bounded s) (k : Nat) : Bounded (s.refill k) := by
  unfold State.refill
  dsimp only
  split
  · exact h
  · have hfilled : Bounded (s.setConn k fun y => { y with
        rfifo := y.rfifo ++ s.readBytes (s.conn k).staged (s.conn k).soff.toNat (s.refillCount k),
        soff := y.soff + BitVec.ofNat 16 (s.refillCount k) }) := by
      refine h.setConn fun ⟨hr, hrest⟩ => ⟨?_, hrest⟩
      have hcount : s.refillCount k ≤ s.build.fifoCap - (s.conn k).rfifo.length := Nat.min_le_left _ _
      rw [List.length_append, State.readBytes_length]
      omega
    split
    · exact hfilled.releaseStaged k
    · exact hfilled

theorem Bounded.readLoop (k : Nat) {fuel want : Nat} {out : List Byte} (h : Bounded s) :
    Bounded (State.readLoop k fuel want out s).2 := by
  induction fuel generalizing want out s with
  | zero => exact h
  | succ fuel ih =>
    have hread : Bounded (s.setConn k fun x => { x with rfifo := x.rfifo.drop (min want (s.conn k).rfifo.length) }) :=
      h.setConn fun ⟨hr, hrest⟩ => ⟨by rw [List.length_drop]; omega, hrest⟩
    unfold State.readLoop
    dsimp only
    split
    · exact hread
    · exact ih (hread.refill k)

theorem Bounded.setWfifo (h : Bounded s) {f : Conn → List Byte} (hf : (f (s.conn k)).length ≤ s.build.fifoCap) :
    Bounded (s.setConn k fun x => { x with wfifo := f x }) :=
  h.setConn fun ⟨hr, _, hrest⟩ => ⟨hr, hf, hrest⟩

theorem Bounded.fillWfifo (h : Bounded s) {d : List Byte} (hd : d.length ≤ s.build.fifoCap - (s.conn k).wfifo.length) :
    Bounded (s.fillWfifo k d) := by
  obtain ⟨-, hw, -⟩ := h.conn_ok k
  exact h.setWfifo (by rw [List.length_append]; omega)

/-! #### Packets (R200 to R203) -/

theorem Bounded.setLength (h : Bounded s) (b : Handle) {n : Nat} (hn : n ≤ s.build.bufCap) : Bounded (s.setLength b n) :=
  h.setBuf fun _ => (Nat.mod_le n _).trans hn

/-- A packet whose message fits after the header. -/
theorem Bounded.buildIp (h : Bounded s) (b : Handle) (p : Byte) {n : Nat} (dst : List Byte) (hn : s.build.iph + n ≤ s.build.bufCap) :
    Bounded (s.buildIp b p n dst) := by
  unfold State.buildIp
  unfold Config.iph at hn
  split
  · next hv => exact ((h.writeBytes _ _ _).writeBytes _ _ _).setLength b (by simpa [hv] using hn)
  · next hv => exact (h.writeBytes _ _ _).setLength b (by simpa [hv] using hn)

theorem Bounded.fillL4Csum (h : Bounded s) (b : Handle) (n : Nat) (p : Byte) (f : Nat) (kind : L4Kind) :
    Bounded (s.fillL4Csum b n p f kind) := h.memEdit ((MemEdit.refl s).fillL4Csum b n p f kind)

theorem Bounded.buildTcp (h : Bounded s) (b : Handle) (k : Nat) (fl : Byte) {d : List Byte} (hd : d.length ≤ s.build.maxpayTcp) :
    Bounded (s.buildTcp b k fl d) := by
  obtain ⟨-, ⟨hcap, -⟩, -⟩ := h.valid
  unfold Config.maxpayTcp at hd
  exact (((h.buildIp b _ _ (by omega)).writeBytes _ _ _).writeBytes _ _ _).fillL4Csum _ _ _ _ _

theorem Bounded.buildUdp (h : Bounded s) (b : Handle) (k : Nat) {d : List Byte} (hd : d.length ≤ s.build.maxpayUdp) :
    Bounded (s.buildUdp b k d) := by
  obtain ⟨-, ⟨hcap, -⟩, -⟩ := h.valid
  unfold Config.maxpayUdp at hd
  exact (((h.buildIp b _ _ (by omega)).writeBytes _ _ _).writeBytes _ _ _).fillL4Csum _ _ _ _ _

theorem Bounded.buildEcho (h : Bounded s) (b : Handle) (seq : Half) : Bounded (s.buildEcho b seq) := by
  obtain ⟨-, ⟨hcap, -⟩, -⟩ := h.valid
  exact ((h.buildIp b _ _ (by omega)).writeBytes _ _ _).fillL4Csum _ _ _ _ _

/-! #### Sending (R244, R263, R271 to R275) -/

theorem Bounded.sendData (h : Bounded s) (k : Nat) (b : Handle) {d : List Byte} (hd : d.length ≤ s.maxPay k) :
    Bounded (s.sendData k b d) := by
  unfold State.sendData
  unfold State.maxPay at hd
  split
  · next hp =>
    rw [hp] at hd
    exact ((h.buildTcp b k _ hd).setConn id).pushTail _ _
  · next hp =>
    rw [hp] at hd
    exact (h.buildUdp b k hd).pushTail _ _

theorem Bounded.maxpayTcp_pos (h : Bounded s) : s.build.fifoCap < s.build.maxpayTcp := h.valid.2.2.1.2

/-- A segment without payload always fits. -/
theorem Bounded.buildTcp_nil (h : Bounded s) (b : Handle) (k : Nat) (fl : Byte) : Bounded (s.buildTcp b k fl []) :=
  h.buildTcp b k fl (Nat.zero_le _)

theorem State.setConn_setConn (s : State) (k : Nat) (f g : Conn → Conn) : (s.setConn k f).setConn k g = s.setConn k (g ∘ f) := by
  simp [State.setConn, List.modify_modify_eq]

/-- A push looks at no slot. -/
theorem State.pushTail_setConn (s : State) (k : Nat) (f : Conn → Conn) (c : Nat) (b : Handle) :
    (s.setConn k f).pushTail c b = (s.pushTail c b).setConn k f := by
  have hchain : ((s.setConn k f).setNext b NONE).chain c = (s.setNext b NONE).chain c := rfl
  unfold State.pushTail
  dsimp only
  rw [hchain]
  split <;> rfl

/-- What R272 makes of the record of its slot. -/
def Conn.handshook (b : Handle) (x : Conn) : Conn := { x with retx := b, retxCnt := 1, synDue := false, synackDue := false }

/-- R272 with a spare: one packet, one update of the slot, one push. -/
theorem State.handshake_eq (s : State) (k : Nat) (fl : Byte) :
    s.handshake k fl =
      if s.takeSpare.1 = NONE then s
      else (((s.takeSpare.2.buildTcp s.takeSpare.1 k fl []).setBuf s.takeSpare.1 fun x => { x with ref := x.ref + 1 }).send
        s.takeSpare.1).setConn k (Conn.handshook s.takeSpare.1) := by
  unfold State.handshake
  dsimp only
  split
  · rfl
  · rw [State.send, State.pushTail_setConn, State.setConn_setConn]
    rfl

theorem Conn.ok_handshook {g : Config} {x : Conn} (h : x.ok g) (b : Handle) (hstate : x.state = .synSent ∨ x.state = .synRcvd) :
    (x.handshook b).ok g := by
  obtain ⟨hr, hw, hudp, hlisten, htcp, -, -, -, haddr⟩ := h
  exact ⟨hr, hw, hudp, hlisten, htcp, fun _ => hstate, nofun, nofun, haddr⟩

/-- R272 is reached in the states of a handshake only, and clears its flags. -/
theorem Bounded.handshake (h : Bounded s) (k : Nat) (fl : Byte)
    (hstate : (s.conn k).state = .synSent ∨ (s.conn k).state = .synRcvd) : Bounded (s.handshake k fl) := by
  rw [State.handshake_eq]
  split
  · exact h
  · have hbuilt := h.takeSpare.buildTcp_nil s.takeSpare.1 k fl
    have hcounted := hbuilt.setBuf (b := s.takeSpare.1) (f := fun x => { x with ref := x.ref + 1 }) id
    refine (hcounted.pushTail OUTBOUND s.takeSpare.1).setConn fun hok => Conn.ok_handshook hok _ ?_
    rwa [State.conn_congr (s := s) (by simp)]

theorem Bounded.retransmit (h : Bounded s) (k : Nat) : Bounded (s.retransmit k) := by
  unfold State.retransmit
  dsimp only
  split
  · exact h.setConn id
  · split
    · exact (h.pushTail _ _).setConn id
    · exact h

theorem Bounded.bareAck (h : Bounded s) (k : Nat) : Bounded (s.bareAck k) := by
  unfold State.bareAck
  dsimp only
  split
  · exact h
  · exact ((h.takeSpare.buildTcp_nil _ k _).pushTail _ _).setConn id

theorem State.proto_setConn {f : Conn → Conn} (hf : ∀ x, (f x).proto = x.proto) : ((s.setConn k f).conn k).proto = (s.conn k).proto := by
  rcases Nat.lt_or_ge k s.conns.length with hk | hk
  · rw [State.conn_setConn_same _ _ _ hk, hf]
  · rw [conn_of_length_le (by simpa using hk), conn_of_length_le hk]

theorem maxPay_congr {k : Nat} (hbuild : t.build = s.build) (hproto : (t.conn k).proto = (s.conn k).proto) :
    t.maxPay k = s.maxPay k := by
  rw [State.maxPay, State.maxPay, hbuild, hproto]

theorem Bounded.drainWfifo (h : Bounded s) (k : Nat) : Bounded (s.drainWfifo k) := by
  unfold State.drainWfifo
  dsimp only
  split
  · exact h
  · have hdrained : Bounded (s.takeSpare.2.setConn k fun x =>
        { x with wfifo := x.wfifo.drop (min (s.conn k).wfifo.length (s.maxPay k)) }) := by
      refine h.takeSpare.setWfifo ?_
      obtain ⟨-, hw, -⟩ := h.takeSpare.conn_ok k
      rw [List.length_drop]
      omega
    refine hdrained.sendData k _ ?_
    have hmax : (s.takeSpare.2.setConn k fun x =>
        { x with wfifo := x.wfifo.drop (min (s.conn k).wfifo.length (s.maxPay k)) }).maxPay k = s.maxPay k := by
      refine maxPay_congr (by simp) ?_
      refine (State.proto_setConn (by intro x; rfl)).trans ?_
      rw [State.conn_congr (s := s) (by simp)]
    rw [hmax, List.length_take]
    omega

theorem Bounded.updateTcp (h : Bounded s) (k : Nat) : Bounded (s.updateTcp k) := by
  unfold State.updateTcp
  dsimp only
  split_ifs with hsyn hsynack
  · exact h.handshake k _ (.inl hsyn.1)
  · exact h.handshake k _ (.inr hsynack.1)
  · exact h.retransmit k
  · exact h.drainWfifo k
  · exact h.bareAck k
  · exact h

theorem Bounded.updateUdp (h : Bounded s) (k : Nat) : Bounded (s.updateUdp k) := by
  unfold State.updateUdp
  dsimp only
  split_ifs
  · exact h.drainWfifo k
  · exact h

theorem Conn.ok_closed_of_closing {g : Config} {x : Conn} (h : x.ok g) (hstate : x.state = .closing) (ev : BitVec 4) :
    Conn.ok g { x with state := .closed, events := ev } := by
  obtain ⟨hr, hw, _, _, _, hretx, hsyn, hsynack, haddr⟩ := h
  rw [hstate] at hretx hsyn hsynack
  exact ⟨hr, hw, fun _ => .inl rfl, nofun, fun _ h => absurd rfl h, fun h => by simpa using hretx h,
    fun h => by simpa using hsyn h, fun h => by simpa using hsynack h, haddr⟩

theorem Bounded.updateClosing (h : Bounded s) (k : Nat) : Bounded (s.updateClosing k) := by
  unfold State.updateClosing
  dsimp only
  split
  · next hclosing => exact h.setConn fun hok => Conn.ok_closed_of_closing hok hclosing.1 _
  · exact h

theorem Bounded.updateSlot (h : Bounded s) (k : Nat) : Bounded (s.updateSlot k) := by
  unfold State.updateSlot
  dsimp only
  split
  · exact ((h.refill k).updateTcp k).updateClosing k
  · exact ((h.refill k).updateUdp k).updateClosing k

theorem Bounded.updateAll (h : Bounded s) (ks : List Nat) : Bounded (s.updateAll ks) := by
  induction ks generalizing s with
  | nil => exact h
  | cons k ks ih =>
    unfold State.updateAll
    split
    · exact ih (h.updateSlot k)
    · exact ih h

end
end Sys2Proof.Machine

/-! ### The bounds of every field, continued: claims, the SLIP framer and reset -/

namespace Sys2Proof.Machine

section
variable {s t : State} {b : Handle} {c k : Nat}

/-! #### Claims (R290 to R299) -/

theorem Bounded.deliver (h : Bounded s) (k : Nat) (b : Handle) (poff plen : Nat) : Bounded (s.deliver k b poff plen).2 := by
  unfold State.deliver
  dsimp only
  split_ifs
  · exact h.setConn id
  · exact h
  · exact h
  · exact (h.setConn id).setLoc _ _

theorem Bounded.dropWithAck (h : Bounded s) (k : Nat) : Bounded (s.dropWithAck k).2 := h.setConn id

theorem Bounded.tcpOpenRx (h : Bounded s) (k : Nat) (b : Handle) (g : Segment) : Bounded (s.tcpOpenRx k b g).2 := by
  unfold State.tcpOpenRx
  dsimp only
  split_ifs
  · exact h.dropWithAck k
  · exact h.dropWithAck k
  · exact h
  · exact h
  · exact (h.setConn id).deliver _ _ _ _

theorem Bounded.releaseRetxOffered (h : Bounded s) (k : Nat) (b : Handle) : Bounded (s.releaseRetxOffered k b) := by
  unfold State.releaseRetxOffered
  split
  · exact (h.dropRef b).setConn Conn.ok_retx_none
  · exact h.releaseRetx k

theorem releaseRetxOffered_conn (s : State) (k : Nat) (b : Handle) (hk : k < s.conns.length) :
    (s.releaseRetxOffered k b).conn k = { s.conn k with retx := NONE } := by
  by_cases h : (s.conn k).retx = b
  · rw [s.releaseRetxOffered_own k b h, (s.dropRef_poolEdit b).conn_setConn_same hk]
  · rw [s.releaseRetxOffered_other k b h, State.releaseRetx_conn hk]

/-- The address words of a 4-byte source address. -/
theorem addrOk_addrOfBytes {g : Config} {d : List Byte} (hd : d.length = g.alen) : addrOk g.ipv (addrOfBytes d) := by
  intro hv
  have h4 : d.length ≤ 4 := by simp [hd, Config.alen, hv]
  have hzero (i : Nat) (hi : 4 ≤ i) : byteAt d i = 0 := by
    rw [byteAt, List.getD_eq_default]
    omega
  refine ⟨?_, ?_, ?_⟩ <;> simp [addrOfBytes, be32At, be32, hzero]

/-- A slot that is not closed exists. -/
theorem conn_lt_of_state_ne (h : (s.conn k).state ≠ .closed) : k < s.conns.length := by
  by_contra hk
  exact h (by rw [conn_of_length_le (Nat.le_of_not_lt hk)]; rfl)

theorem releaseRetxOffered_setConn_conn {f : Conn → Conn} (hk : k < s.conns.length) :
    ((s.setConn k f).releaseRetxOffered k b).conn k = { f (s.conn k) with retx := NONE } := by
  rw [releaseRetxOffered_conn _ _ _ ((s.setConn_conns_length k f).symm ▸ hk), s.conn_setConn_same k f hk]

/-- A listening slot holds no retransmit buffer. -/
theorem Bounded.claimSyn (h : Bounded s) (hstate : (s.conn k).state = .listen) {src : List Byte} (hsrc : src.length = s.build.alen)
    (sport : Half) (g : Segment) : Bounded (s.claimSyn k src sport g).2 := by
  refine h.setConn fun ⟨hr, hw, hudp, _, _, hretx, hsyn, _, _⟩ => ?_
  rw [hstate] at hudp hretx hsyn
  refine ⟨hr, hw, fun hp => absurd (hudp hp) (by decide), nofun, fun _ _ _ => rfl, fun _ => .inr rfl, fun hd => ?_,
    fun _ => ⟨rfl, by_contra fun hne => absurd (hretx hne) (by decide)⟩, addrOk_addrOfBytes hsrc⟩
  exact absurd (hsyn hd).1 (by decide)

theorem Bounded.claimSynSent (h : Bounded s) (hstate : (s.conn k).state = .synSent) (b : Handle) (g : Segment) :
    Bounded (s.claimSynSent k b g).2 := by
  unfold State.claimSynSent
  dsimp only
  split_ifs
  · have hk : k < s.conns.length := conn_lt_of_state_ne (by simp [hstate])
    have hconn := releaseRetxOffered_setConn_conn (b := b) (f := fun y => { y with rcvAck := g.seq + 1, sndSeq := y.sndSeq + 1 }) hk
    refine ((h.setConn id).releaseRetxOffered k b).setConn fun hok => ?_
    rw [hconn] at hok ⊢
    obtain ⟨hr, hw, -, -, htcp, -, -, hsynack, haddr⟩ := hok
    refine ⟨hr, hw, fun _ => .inr (.inl rfl), nofun, fun hp _ _ => ?_, fun hne => absurd rfl hne, nofun, fun hd => ?_, haddr⟩
    · exact htcp hp (by simp [hstate]) (by simp [hstate])
    · exact absurd (hsynack hd).1 (by simp [hstate])
  · exact h

theorem Bounded.claimSynRcvd (h : Bounded s) (hstate : (s.conn k).state = .synRcvd) (b : Handle) (g : Segment) :
    Bounded (s.claimSynRcvd k b g).2 := by
  unfold State.claimSynRcvd
  dsimp only
  split_ifs
  · have hk : k < s.conns.length := conn_lt_of_state_ne (by simp [hstate])
    have hconn := releaseRetxOffered_setConn_conn (b := b) (f := fun y => { y with sndSeq := y.sndSeq + 1 }) hk
    refine (((h.setConn id).releaseRetxOffered k b).setConn fun hok => ?_).tcpOpenRx k b g
    rw [hconn] at hok ⊢
    obtain ⟨hr, hw, -, -, htcp, -, hsyn, -, haddr⟩ := hok
    refine ⟨hr, hw, fun _ => .inr (.inl rfl), nofun, fun hp _ _ => ?_, fun hne => absurd rfl hne, fun hd => ?_, nofun, haddr⟩
    · exact htcp hp (by simp [hstate]) (by simp [hstate])
    · exact absurd (hsyn hd).1 (by simp [hstate])
  · exact h.dropWithAck k

theorem Bounded.claimTcp (h : Bounded s) {src : List Byte} (hsrc : src.length = s.build.alen) {sport : Half} {g : Segment}
    {r : Claim × State} (hr : s.claimTcp k b src sport g = some r) : Bounded r.2 := by
  unfold State.claimTcp at hr
  dsimp only at hr
  split_ifs at hr with hbound hsyn
  · cases hr
    exact h.claimSyn hsyn.1 hsrc sport g
  · split at hr
    all_goals cases hr
    · next hstate => exact h.claimSynSent hstate b g
    · next hstate => exact h.claimSynRcvd hstate b g
    · exact h.tcpOpenRx k b g
    · exact h

theorem Bounded.claimUdp (h : Bounded s) (k : Nat) (b : Handle) (o n : Nat) : Bounded (s.claimUdp k b o n).2 := by
  unfold State.claimUdp
  split
  · exact h
  · exact h.deliver _ _ _ _

theorem Bounded.claim (h : Bounded s) {p : Byte} {o n : Nat} {r : Claim × State} (hr : s.claim k b p o n = some r) : Bounded r.2 := by
  unfold State.claim at hr
  dsimp only at hr
  split_ifs at hr
  split at hr
  · cases hr
    exact h.claimUdp k b o n
  · exact h.claimTcp (s.readBytes_length b _ _) hr

theorem Bounded.settled (h : Bounded t) (b : Handle) (c : Claim) : Bounded (t.settled b c) := by
  cases c
  · exact h
  · exact h
  · exact h.release b
  · exact h.release b

/-! #### The SLIP framer (R221 to R227) -/

theorem Bounded.slipStore (h : Bounded s) (c : Byte) (b : Handle) (y : Byte) : Bounded (slipStore c b y s) := by
  unfold Machine.slipStore
  split
  · exact h.setSlip id
  · next hfull =>
    refine (h.writeBytes b _ _).setBuf fun hlen => (?_ : ((s.buf b).len + 1).toNat ≤ s.build.bufCap)
    have hle : (s.buf b).len.toNat ≤ s.build.bufCap := hlen
    have hone : (1 : Half).toNat = 1 := rfl
    rw [BitVec.toNat_add, hone]
    omega

theorem Bounded.rxByte (h : Bounded s) (c : Byte) (b : Handle) (x : Byte) : Bounded (s.rxByte c b x) := by
  unfold State.rxByte
  split_ifs
  · exact (h.setSlip id).slipStore c b _
  · exact (h.setSlip id).slipStore c b _
  · exact (h.setSlip id).slipStore c b _
  · exact h.setSlip id
  · exact h.slipStore c b x

theorem Bounded.loadRx (h : Bounded s) (c : Nat) (b : Handle) : Bounded (s.loadRx c b) := (h.setSlip id).setLoc _ _

theorem Bounded.rxDrop (h : Bounded s) (c : Nat) (b : Handle) : Bounded (s.rxDrop c b) :=
  (h.setBuf fun _ => Nat.zero_le _).setSlip id

theorem Bounded.rxQueue (h : Bounded s) (c : Byte) (b r : Handle) : Bounded (s.rxQueue c b r) :=
  ((h.setBuf id).pushTail _ _).loadRx _ _

theorem Bounded.loadTx (h : Bounded s) (c : Nat) {b : Handle} (hb : b ≠ NONE) {ph : TxPhase} (hph : ph ≠ .idle) :
    Bounded (s.loadTx c b ph) :=
  (h.setSlip fun _ => iff_of_false hb hph).setLoc _ _

theorem Bounded.txEnd (h : Bounded s) (c : Nat) (b : Handle) : Bounded (s.txEnd c b) :=
  ((h.setSlip fun _ => iff_of_true rfl rfl).setLoc _ _).release b

theorem Bounded.txStep (h : Bounded s) (ht : TxStep s c t) : Bounded t := by
  cases ht with
  | advance f hph hf =>
    obtain ⟨-, hcur, hne⟩ := hf
    exact h.setSlip fun hiff => by rw [hcur, hiff]; exact iff_of_false hph hne
  | last hph => exact h.txEnd c _

/-! #### Reset (R340, R341) -/

theorem addrOk_resetHostaddr (g : Config) : addrOk g.ipv (resetHostaddr g) := by
  intro hv
  simp [resetHostaddr, hv]

theorem Bounded.resetOf {g : Config} (hg : g.valid) : Bounded (State.resetOf g) where
  valid := hg
  bufs_length := by simp [State.resetOf]
  chains_length := by simp [State.resetOf, resetChains]; omega
  slf_length := by simp [State.resetOf]
  conns_length := by simp [State.resetOf]
  len := by simp [State.resetOf, resetBuffer]
  phase := by simp [State.resetOf, idleChannel]
  slots := by
    intro x hx
    obtain rfl := List.eq_of_mem_replicate hx
    exact idleConn_ok g idleConn
  hostaddr := addrOk_resetHostaddr g
  argaddr := fun _ => ⟨rfl, rfl, rfl⟩
  mem := State.resetOf_mem_wf g

theorem Bounded.softReset (h : Bounded s) : Bounded s.softReset := { Bounded.resetOf h.valid with mem := h.mem }

theorem Bounded.hardReset (h : Bounded s) : Bounded s.hardReset := { h.softReset with mem := State.resetOf_mem_wf s.build }

/-! #### The slot commands (R246 to R252) -/

theorem Conn.ok_closed {g : Config} {x : Conn} (h : x.ok g) (hstate : x.state = .closed) :
    x.retx = NONE ∧ x.synDue = false ∧ x.synackDue = false := by
  obtain ⟨-, -, -, -, -, hretx, hsyn, hsynack, -⟩ := h
  rw [hstate] at hretx hsyn hsynack
  simpa using And.intro hretx (And.intro hsyn hsynack)

theorem Bounded.initSlot (h : Bounded s) (k : Nat) (p : Proto) (port : Half) :
    Bounded ((s.resetSlot k).setConn k fun x => { x with proto := p, lport := port }) := by
  have hidle : ((s.resetSlot k).conn k).state = .closed := by
    rcases Nat.lt_or_ge k s.conns.length with hk | hk
    · rw [State.resetSlot_conn hk]
      rfl
    · rw [conn_of_length_le ((s.resetSlot_slotEdit k).conns_length ▸ hk)]
      rfl
  refine (h.resetSlot k).setConn fun hok => ?_
  obtain ⟨hretx, hsyn, hsynack⟩ := Conn.ok_closed hok hidle
  obtain ⟨hr, hw, -, -, -, -, -, -, haddr⟩ := hok
  simp only [Conn.ok, hidle, hretx, hsyn, hsynack]
  exact ⟨hr, hw, by simp, by simp, by simp, by simp, by simp, by simp, haddr⟩

theorem Bounded.setremote (h : Bounded s) (hstate : (s.conn k).state = .closed) (port : Half) :
    Bounded (s.setConn k fun x => { x with raddr := s.regs.argaddr, rport := port, rbound := true }) := by
  refine h.setConn fun ⟨hr, hw, hudp, _, _, hretx, hsyn, hsynack, _⟩ => ?_
  exact ⟨hr, hw, hudp, fun hl => absurd (hstate.symm.trans hl) (by decide), fun _ _ _ => rfl, hretx, hsyn, hsynack, h.argaddr⟩

theorem Bounded.openUdp (h : Bounded s) (hstate : (s.conn k).state = .closed) (hproto : (s.conn k).proto = .udp) (ev : BitVec 4) :
    Bounded (s.setConn k fun x => { x with state := .opened, events := x.events ||| ev }) := by
  refine h.setConn fun hok => ?_
  obtain ⟨hretx, hsyn, hsynack⟩ := Conn.ok_closed hok hstate
  obtain ⟨hr, hw, -, -, -, -, -, -, haddr⟩ := hok
  exact ⟨hr, hw, by simp, by simp, by simp [hproto], by simp [hretx], by simp [hsyn], by simp [hsynack], haddr⟩

theorem Bounded.openTcp (h : Bounded s) (hstate : (s.conn k).state = .closed) (hproto : (s.conn k).proto = .tcp) (v : Word) :
    Bounded (s.setConn k fun x =>
      { x with rbound := false, raddr := zeroAddr, rport := 0, sndSeq := v, rcvAck := 0, state := .listen }) := by
  refine h.setConn fun hok => ?_
  obtain ⟨hretx, hsyn, hsynack⟩ := Conn.ok_closed hok hstate
  obtain ⟨hr, hw, -, -, -, -, -, -, -⟩ := hok
  exact ⟨hr, hw, by simp [hproto], by simp, by simp, by simp [hretx], by simp [hsyn], by simp [hsynack], fun _ => ⟨rfl, rfl, rfl⟩⟩

theorem Bounded.connect (h : Bounded s) (hstate : (s.conn k).state = .closed) (hproto : (s.conn k).proto = .tcp) (port : Half)
    (v : Word) :
    Bounded (s.setConn k fun x =>
      { x with raddr := s.regs.argaddr, rport := port, rbound := true, sndSeq := v, rcvAck := 0, state := .synSent,
               synDue := true, retxCnt := 0 }) := by
  refine h.setConn fun hok => ?_
  obtain ⟨hretx, -, hsynack⟩ := Conn.ok_closed hok hstate
  obtain ⟨hr, hw, -, -, -, -, -, -, -⟩ := hok
  exact ⟨hr, hw, by simp [hproto], by simp, by simp, by simp, by simp [hretx], by simp [hsynack], h.argaddr⟩

theorem Bounded.closeOpened (h : Bounded s) (hstate : (s.conn k).state = .opened) :
    Bounded (s.setConn k fun x => { x with state := .closing }) := by
  refine h.setConn fun ⟨hr, hw, _, _, htcp, hretx, hsyn, hsynack, haddr⟩ => ?_
  simp only [hstate] at htcp hretx hsyn hsynack
  exact ⟨hr, hw, by simp, by simp, by simpa using htcp, by simpa using hretx, by simpa using hsyn, by simpa using hsynack, haddr⟩

end

/-! #### Every effect -/

section
variable {s t : State} {i : Instr}

/-- The write FIFO and the overflow fit in one packet (R262). -/
theorem Bounded.sendWfifo (h : Bounded s) (k : Nat) {e : List Byte}
    (he : e.length ≤ s.maxPay k - (s.conn k).wfifo.length) :
    Bounded ((s.takeSpare.2.setConn k fun x => { x with wfifo := [] }).sendData k s.takeSpare.1 ((s.conn k).wfifo ++ e)) := by
  have hmax : (s.takeSpare.2.setConn k fun x => { x with wfifo := [] }).maxPay k = s.maxPay k := by
    refine maxPay_congr (by simp) ?_
    refine (State.proto_setConn (by intro x; rfl)).trans ?_
    rw [State.conn_congr (s := s) (by simp)]
  have hroom : (s.conn k).wfifo.length ≤ s.maxPay k := by
    obtain ⟨-, hw, -⟩ := h.conn_ok k
    have hfits := h.maxpayTcp_pos
    unfold State.maxPay
    unfold Config.maxpayTcp at hfits
    split
    · unfold Config.maxpayTcp
      omega
    · unfold Config.maxpayUdp
      omega
  refine (h.takeSpare.setWfifo (Nat.zero_le _)).sendData k _ ?_
  rw [hmax, List.length_append]
  omega

theorem Effect.bounded (he : Effect s i t) (h : Bounded s) : Bounded t := by
  cases he with
  | nothing => exact h
  | data i m hm => exact h.memEdit ⟨m, rfl, hm⟩
  | takeSpare => exact h.takeSpare
  | release => exact h.release _
  | queue => exact h.takeSpare.pushTail _ _
  | ref => exact h.setBuf id
  | unref => exact h.setBuf id
  | push =>
    split
    · exact h.pushHead _ _
    · exact h.pushTail _ _
  | pop => exact h.popHead _
  | remove _ _ _ _ hr => exact h.remove hr
  | setlen _ hv => exact h.setBuf fun _ => hv
  | setchan => exact h.setBuf id
  | csa i a => exact h.setCsa a
  | buildEcho => exact h.buildEcho _ _
  | rxNothing => exact h.setSlip id
  | rxDrop => exact h.rxDrop _ _
  | rxQueue => exact h.takeSpare.rxQueue _ _ _
  | rxByte => exact h.rxByte _ _ _
  | rxFirst => exact (h.takeSpare.loadRx _ _).rxByte _ _ _
  | tx _ _ ht => exact h.txStep ht
  | txFirst _ _ hhead ht => exact ((h.popHead _).loadTx _ hhead startPhase_ne_idle).txStep ht
  | init => exact h.initSlot _ _ _
  | reg => exact h.setConn id
  | reset => exact h.resetSlot _
  | setremote _ hstate => exact h.setremote hstate _
  | openUdp _ hstate hproto => exact h.openUdp hstate hproto _
  | openTcp _ hstate hproto => exact h.openTcp hstate hproto _
  | connect _ hproto hstate => exact h.connect hstate hproto _ _
  | closeOpened _ hstate => exact h.closeOpened hstate
  | abandon => exact h.abandon _
  | listener => exact h.setConn id
  | events => exact h.setConn id
  | @getremote k =>
    obtain ⟨-, -, -, -, -, -, -, -, haddr⟩ := h.conn_ok k.toNat
    exact h.setArgaddr haddr
  | retxDue => exact h.setConn id
  | gaveup => exact h.setConn id
  | read => exact h.readLoop _
  | fill _ hd => exact h.fillWfifo hd
  | send _ _ hd he => exact (h.fillWfifo hd).sendWfifo _ he
  | update => exact h.updateSlot _
  | updateAll => exact h.updateAll _
  | accept _ _ _ hoffer =>
    obtain ⟨_, _, _, _, hclaim, _⟩ := (State.offer_eq_some _ _ _ _ _ _ _ _).1 hoffer
    exact (h.claim hclaim).settled _ _
  | softReset => exact h.softReset

theorem exec_bounded (h : Bounded s) (he : exec i s = .next t) : Bounded t := by
  rcases exec_next he with ⟨e, -, rfl⟩ | ⟨-, u, r0, r1, hu, rfl⟩
  · exact h.finish _ e 0 0
  · exact (hu.bounded h).finish _ _ _ _

/-! #### Every step -/

theorem addrOk_writeAddr {ipv : IPVersion} {a : AddrWords} (h : addrOk ipv a) (i : Nat) (v : Word) : addrOk ipv (writeAddr ipv a i v) := by
  intro hv
  subst hv
  unfold writeAddr
  split <;> simp_all

theorem Bounded.regWrite (h : Bounded s) (offset : Nat) (v : Word) : Bounded (s.regWrite offset v) := by
  unfold State.regWrite
  split
  case h_3 | h_4 | h_5 | h_6 => exact { h with hostaddr := addrOk_writeAddr h.hostaddr _ v }
  case h_7 | h_8 | h_9 | h_10 => exact { h with argaddr := addrOk_writeAddr h.argaddr _ v }
  all_goals exact { h with }

theorem runCommand_bounded {w : Word} (h : Bounded s) (he : runCommand w s = .next t) : Bounded t := by
  unfold runCommand at he
  split at he
  · exact exec_bounded h he
  · cases he
    exact h.finish _ _ _ _

theorem accessStop_ne_next {offset width : Nat} {stop : Answer} (h : accessStop offset width = some stop) : stop ≠ .next t := by
  unfold accessStop at h
  split_ifs at h
  all_goals
    cases h
    nofun

theorem hostStep_bounded {a : HostAccess} (h : Bounded s) (he : hostStep a s = .next t) : Bounded t := by
  cases a with
  | reset =>
    cases he
    exact h.hardReset
  | read offset width =>
    unfold hostStep at he
    dsimp only at he
    split at he
    · next hstop => exact absurd he (accessStop_ne_next hstop)
    · cases he
      exact { h with }
  | write offset width v =>
    unfold hostStep at he
    dsimp only at he
    split at he
    · next hstop => exact absurd he (accessStop_ne_next hstop)
    · split at he
      · exact runCommand_bounded h he
      · cases he
        exact h.regWrite offset v

end

/-- Settles O24, by `Bounded` for each operation, each effect of a command and each host access. -/
theorem everyStepKeepsTheFields : Obligations.EveryStepKeepsTheFields := by
  intro s t hs ht
  have h : Bounded s := bounded_iff.2 hs
  refine bounded_iff.1 ?_
  rw [step, if_pos h.valid] at ht
  split at ht
  · cases ht
    exact h
  · next a rest _ => exact hostStep_bounded (s := { s with input := rest }) { h with } ht

end Sys2Proof.Machine

/-! ### The pool and what holds its buffers (10_state.md R31, R33)

`Pool s hold` is items 1 to 5 of R33 for a given list of held buffers, each with a number of bytes that it has at least: 0 for RXBUF and
TXCUR, SOFF + 1 for STAGED.  It looks at the buffer records and the chains only, so that it can be carried through the middle of an
operation, where a holder register and LOC do not agree yet. -/

namespace Sys2Proof.Machine

structure Pool (s : State) (hold : List (Handle × Nat)) : Prop where
  chains : ChainsSound s
  nodup : (hold.map Prod.fst).Nodup
  has : ∀ p ∈ hold, s.build.hasBuffer p.1
  mem : ∀ b : Handle, s.build.hasBuffer b → (b ∈ hold.map Prod.fst ↔ (s.buf b).loc = .hold)
  long : ∀ p ∈ hold, p.2 ≤ (s.buf p.1).len.toNat
  buffers : ∀ b : Handle, s.build.hasBuffer b → s.bufferOk b

section
variable {s t : State} {b : Handle} {n : Nat} {hold hold' : List (Handle × Nat)}

theorem Pool.perm (h : Pool s hold) (hp : hold.Perm hold') : Pool s hold' where
  chains := h.chains
  nodup := (hp.map _).nodup_iff.1 h.nodup
  has p hmem := h.has p (hp.mem_iff.2 hmem)
  mem b hb := (hp.map _).mem_iff.symm.trans (h.mem b hb)
  long p hmem := h.long p (hp.mem_iff.2 hmem)
  buffers := h.buffers

/-- A held buffer's bound may be any that its length meets. -/
theorem Pool.relong {m : Nat} (h : Pool s ((b, n) :: hold)) (hm : m ≤ (s.buf b).len.toNat) : Pool s ((b, m) :: hold) where
  chains := h.chains
  nodup := h.nodup
  has := List.forall_mem_cons.2 (List.forall_mem_cons.1 h.has)
  mem := h.mem
  long := List.forall_mem_cons.2 ⟨hm, (List.forall_mem_cons.1 h.long).2⟩
  buffers := h.buffers

theorem Pool.congr (h : Pool s hold) (hbuild : t.build = s.build) (hbufs : t.bufs = s.bufs) (hchains : t.chains = s.chains) :
    Pool t hold where
  chains := h.chains.congr hbuild (by rw [hbufs]) hchains (fun b => by rw [State.buf_congr hbufs]) fun b => by
    rw [State.buf_congr hbufs]
  nodup := h.nodup
  has := hbuild ▸ h.has
  mem b hb := by
    rw [State.buf_congr hbufs]
    exact h.mem b (hbuild ▸ hb)
  long p hp := by
    rw [State.buf_congr hbufs]
    exact h.long p hp
  buffers b hb := by
    have hok := h.buffers b (hbuild ▸ hb)
    simpa only [State.bufferOk, State.buf_congr hbufs, hbuild] using hok

theorem Pool.setConn (h : Pool s hold) (k : Nat) (f : Conn → Conn) : Pool (s.setConn k f) hold := h.congr rfl rfl rfl

theorem Pool.setSlip (h : Pool s hold) (c : Nat) (f : SlipChan → SlipChan) : Pool (s.setSlip c f) hold := h.congr rfl rfl rfl

theorem Pool.writeBytes (h : Pool s hold) (b : Handle) (o : Nat) (d : List Byte) : Pool (s.writeBytes b o d) hold :=
  h.congr rfl rfl rfl

theorem Pool.lt (h : Pool s hold) (hb : s.build.hasBuffer b) : b.toNat < s.bufs.length := h.chains.lt_bufs_length hb

theorem Pool.loc_of_mem (h : Pool s ((b, n) :: hold)) : s.build.hasBuffer b ∧ (s.buf b).loc = .hold := by
  have hb := h.has (b, n) List.mem_cons_self
  exact ⟨hb, (h.mem b hb).1 List.mem_cons_self⟩

/-- A held buffer is held once. -/
theorem Pool.notMem_tail (h : Pool s ((b, n) :: hold)) : b ∉ hold.map Prod.fst := (List.nodup_cons.1 h.nodup).1

theorem Pool.notMem_of_ne_hold (h : Pool s hold) (hb : (s.buf b).loc ≠ .hold) : b ∉ hold.map Prod.fst := by
  intro hmem
  obtain ⟨p, hp, rfl⟩ := List.mem_map.1 hmem
  exact hb ((h.mem _ (h.has p hp)).1 hmem)

/-- The record of a buffer that nothing holds may change, but for its link and place. -/
theorem Pool.setBuf (h : Pool s hold) (hb : s.build.hasBuffer b) {f : Buffer → Buffer}
    (hlink : (f (s.buf b)).next = (s.buf b).next ∧ (f (s.buf b)).loc = (s.buf b).loc)
    (href : (s.buf b).loc = .chain SPARE → (f (s.buf b)).ref = 0)
    (hlong : ∀ m, (b, m) ∈ hold → m ≤ (f (s.buf b)).len.toNat) : Pool (s.setBuf b f) hold := by
  have hsame := s.buf_setBuf_same b f (h.lt hb)
  have hne {x : Handle} (hx : x ≠ b) : (s.setBuf b f).buf x = s.buf x := s.buf_setBuf_ne f hx
  have hplace (x : Handle) : ((s.setBuf b f).buf x).next = (s.buf x).next ∧ ((s.setBuf b f).buf x).loc = (s.buf x).loc := by
    by_cases hx : x = b
    · rw [hx, hsame]
      exact hlink
    · rw [hne hx]
      exact ⟨rfl, rfl⟩
  refine ⟨?chains, h.nodup, h.has, fun x hx => ?mem, fun p hp => ?long, fun x hx => ?buffers⟩
  case chains => exact h.chains.congr rfl (s.setBuf_bufs_length b f) rfl (fun x => (hplace x).1) fun x => (hplace x).2
  case mem =>
    rw [(hplace x).2]
    exact h.mem x hx
  case long =>
    obtain ⟨x, m⟩ := p
    by_cases hx : x = b
    · subst hx
      rw [hsame]
      exact hlong m hp
    · rw [hne hx]
      exact h.long _ hp
  case buffers =>
    obtain ⟨hknown, hnext, hspare⟩ := h.buffers x hx
    by_cases hxb : x = b
    · subst hxb
      refine ⟨by rwa [(hplace x).2], fun hl => ?_, fun hl => ?_⟩
      · rw [(hplace x).2] at hl
        rw [(hplace x).1]
        exact hnext hl
      · rw [(hplace x).2] at hl
        rw [hsame]
        exact href hl
    · rw [State.bufferOk, hne hxb]
      exact ⟨hknown, hnext, hspare⟩

/-- A host-held buffer is taken into a holder. -/
theorem Pool.takeUp (h : Pool s hold) (hb : s.build.hasBuffer b) (hheld : s.hostHeld b) (hn : n ≤ (s.buf b).len.toNat) :
    Pool (s.setLoc b .hold) ((b, n) :: hold) := by
  have hbuf := State.setLoc_buf (loc := .hold) (h.lt hb)
  have hnot : b ∉ hold.map Prod.fst := h.notMem_of_ne_hold (by simp [hheld])
  refine ⟨h.chains.setLoc hb (hostHeld_free hheld) (by simp), List.nodup_cons.2 ⟨hnot, h.nodup⟩, ?has, fun x hx => ?mem,
    ?long, fun x hx => ?buffers⟩
  case has => exact List.forall_mem_cons.2 ⟨hb, h.has⟩
  case mem =>
    rw [hbuf, List.map_cons, List.mem_cons, h.mem x hx]
    by_cases hxb : x = b <;> simp [hxb]
  case long =>
    refine List.forall_mem_cons.2 ⟨?_, fun p hp => ?_⟩
    · rwa [hbuf]
    · rw [hbuf]
      exact h.long p hp
  case buffers =>
    obtain ⟨hknown, hnext, hspare⟩ := h.buffers x hx
    by_cases hxb : x = b
    · subst hxb
      simp [State.bufferOk, hbuf, Loc.known, hnext (.inr hheld)]
    · rw [State.bufferOk, hbuf, if_neg hxb]
      exact ⟨hknown, hnext, hspare⟩

/-- A holder gives its buffer back to the host. -/
theorem Pool.giveBack (h : Pool s ((b, n) :: hold)) : Pool (s.setLoc b .off) hold ∧ (s.setLoc b .off).hostHeld b := by
  obtain ⟨hb, hloc⟩ := h.loc_of_mem
  have hbuf := State.setLoc_buf (loc := .off) (h.lt hb)
  have hnot := h.notMem_tail
  have hne {p : Handle × Nat} (hp : p ∈ hold) : p.1 ≠ b := fun e => hnot (e ▸ List.mem_map_of_mem hp)
  refine ⟨⟨h.chains.setLoc hb (by simp [hloc]) (by simp), (List.nodup_cons.1 h.nodup).2, fun p hp => ?has, fun x hx => ?mem,
    fun p hp => ?long, fun x hx => ?buffers⟩, ?held⟩
  case has => exact h.has p (List.mem_cons_of_mem _ hp)
  case mem =>
    rw [hbuf]
    by_cases hxb : x = b
    · subst hxb
      simpa using hnot
    · rw [if_neg hxb, ← h.mem x hx, List.map_cons, List.mem_cons, or_iff_right hxb]
  case long =>
    rw [hbuf]
    exact h.long p (List.mem_cons_of_mem _ hp)
  case buffers =>
    obtain ⟨hknown, hnext, hspare⟩ := h.buffers x hx
    by_cases hxb : x = b
    · subst hxb
      simp [State.bufferOk, hbuf, Loc.known, hnext (.inl hloc)]
    · rw [State.bufferOk, hbuf, if_neg hxb]
      exact ⟨hknown, hnext, hspare⟩
  case held => rw [State.hostHeld, hbuf, if_pos rfl]

/-! #### The pool's operations (R110 to R115) -/

variable {c : Nat} {l : List Handle}

/-- A buffer that is not held moves on one chain. -/
theorem Pool.chainEdit (h : Pool s hold) (he : ChainEdit s t c b l) (hbefore : (s.buf b).loc ≠ .hold)
    (hafter : (t.buf b).loc ≠ .hold) (hok : t.bufferOk b) : Pool t hold := by
  have hbuild := he.pool.build
  have hnot := h.notMem_of_ne_hold hbefore
  refine ⟨he.chainsSound h.chains, h.nodup, hbuild ▸ h.has, fun x hx => ?mem, fun p hp => ?long, fun x hx => ?buffers⟩
  case mem =>
    rw [h.mem x (hbuild ▸ hx)]
    by_cases hxb : x = b
    · subst hxb
      exact iff_of_false hbefore hafter
    · rw [he.tags x hxb]
  case long =>
    have hpb : p.1 ≠ b := fun e => hnot (e ▸ List.mem_map_of_mem hp)
    rw [he.tags _ hpb]
    exact h.long p hp
  case buffers =>
    by_cases hxb : x = b
    · exact hxb ▸ hok
    · exact he.bufferOk hxb (h.buffers x (hbuild ▸ hx))

theorem bufferOk_of_off (hoff : (s.buf b).loc = .off) (hnext : (s.buf b).next = NONE) : s.bufferOk b := by
  simp [State.bufferOk, hoff, hnext, Loc.known]

theorem bufferOk_of_chain (hloc : (s.buf b).loc = .chain c) (hc : c < 3 + s.build.nchan) (href : c = SPARE → (s.buf b).ref = 0) :
    s.bufferOk b := by
  refine ⟨?_, by simp [hloc], fun h => href ?_⟩
  · simp only [hloc, Loc.known, decide_eq_true_eq]
    omega
  · simpa [hloc] using h

theorem spare_lt (s : State) : SPARE < 3 + s.build.nchan := Nat.add_pos_left (by decide) _

/-- A handle that R114 gives is host-held. -/
theorem ChainsSound.takeSpare_held (hs : ChainsSound s) (h : s.takeSpare.1 ≠ NONE) :
    s.build.hasBuffer s.takeSpare.1 ∧ s.takeSpare.2.hostHeld s.takeSpare.1 := by
  cases hl : s.chainList SPARE with
  | nil =>
    rw [hs.takeSpare_nil hl] at h
    exact absurd rfl h
  | cons b l =>
    obtain ⟨hhandle, hbuf, -, -⟩ := hs.takeSpare_cons hl
    rw [hhandle, State.hostHeld, hbuf]
    exact ⟨(hs.holds SPARE (spare_lt s)).hasBuffer b (hl ▸ List.mem_cons_self), rfl⟩

theorem Pool.takeSpare (h : Pool s hold) : Pool s.takeSpare.2 hold := by
  cases hl : s.chainList SPARE with
  | nil => rwa [h.chains.takeSpare_nil hl]
  | cons b l =>
    obtain ⟨-, hbuf, -, he⟩ := h.chains.takeSpare_cons hl
    have hloc := (h.chains.holds SPARE (spare_lt s)).loc_eq (hl ▸ List.mem_cons_self : b ∈ _)
    exact h.chainEdit he (by simp [hloc]) (by simp [hbuf]) (bufferOk_of_off (by rw [hbuf]) (by rw [hbuf]))

/-- The head of a chain becomes host-held (R112). -/
theorem Pool.popHead (h : Pool s hold) (hc : c < 3 + s.build.nchan) : Pool (s.popHead c).2 hold := by
  cases hl : s.chainList c with
  | nil => rwa [h.chains.popHead_nil hc hl]
  | cons b l =>
    obtain ⟨he, hbuf, -⟩ := h.chains.unlink_head_edit hc hl
    have hloc := (h.chains.holds c hc).loc_eq (hl ▸ List.mem_cons_self : b ∈ _)
    rw [h.chains.popHead_cons hc hl]
    exact h.chainEdit he (by simp [hloc]) (by simp [hbuf]) (bufferOk_of_off (by rw [hbuf]) (by rw [hbuf]))

theorem ChainsSound.popHead_held (hs : ChainsSound s) (hc : c < 3 + s.build.nchan) (h : (s.popHead c).1 ≠ NONE) :
    s.build.hasBuffer (s.popHead c).1 ∧ (s.popHead c).2.hostHeld (s.popHead c).1 := by
  cases hl : s.chainList c with
  | nil =>
    rw [hs.popHead_nil hc hl] at h
    exact absurd rfl h
  | cons b l =>
    obtain ⟨-, hbuf, -⟩ := hs.unlink_head_edit hc hl
    rw [hs.popHead_cons hc hl, State.hostHeld, hbuf]
    exact ⟨(hs.holds c hc).hasBuffer b (hl ▸ List.mem_cons_self), rfl⟩

/-- R113 finds every member of its chain. -/
theorem Pool.remove (h : Pool s hold) (hc : c < 3 + s.build.nchan) (hb : s.build.hasBuffer b) (hloc : (s.buf b).loc = .chain c)
    (hr : s.remove c b = some t) : Pool t hold := by
  have hmember := h.chains.holds c hc
  obtain ⟨l, m, hlist⟩ := List.append_of_mem ((hmember.mem_iff b hb).2 hloc)
  rw [hlist] at hmember
  rw [h.chains.remove_eq hmember] at hr
  cases hr
  have he := h.chains.unlink_edit hc hmember
  have hbuf := s.unlink_buf_same c (h.chains.prev_ne hmember).symm (h.lt hb)
  exact h.chainEdit he (by simp [hloc]) (by rw [hbuf]; simp) (bufferOk_of_off (by rw [hbuf]) (by rw [hbuf]))

/-- A host-held buffer is put on a chain other than SPARE. -/
theorem Pool.pushTail (h : Pool s hold) (hc : c < 3 + s.build.nchan) (h0 : c ≠ SPARE) (hb : s.build.hasBuffer b)
    (hheld : s.hostHeld b) : Pool (s.pushTail c b) hold := by
  have he := h.chains.pushTail_edit hc hb (hostHeld_free hheld)
  have hbuf := s.pushTail_buf_same c (h.lt hb) (h.chains.tail_ne hc hb (hostHeld_free hheld _)).symm
  exact h.chainEdit he (by simp [hheld]) (by simp [hbuf])
    (bufferOk_of_chain (by rw [hbuf]) (he.pool.build ▸ hc) fun e => absurd e h0)

theorem Pool.pushHead (h : Pool s hold) (hc : c < 3 + s.build.nchan) (href : c = SPARE → (s.buf b).ref = 0)
    (hb : s.build.hasBuffer b) (hheld : s.hostHeld b) : Pool (s.pushHead c b) hold := by
  have he := h.chains.pushHead_edit hc hb (hostHeld_free hheld)
  have hbuf := s.pushHead_buf_same c b (h.lt hb)
  exact h.chainEdit he (by simp [hheld]) (by simp [hbuf])
    (bufferOk_of_chain (by rw [hbuf]) (he.pool.build ▸ hc) fun e => by rw [hbuf]; exact href e)

theorem Pool.release (h : Pool s hold) (hb : s.build.hasBuffer b) (hheld : s.hostHeld b) : Pool (s.release b).2 hold := by
  rcases s.release_cases b with ⟨href, e⟩ | ⟨-, e⟩
  · rw [e]
    exact h.pushHead (spare_lt s) (fun _ => href) hb hheld
  · rwa [e]

/-- A held buffer is given back and released (R243, R225). -/
theorem Pool.giveBack_release (h : Pool s ((b, n) :: hold)) : Pool ((s.setLoc b .off).release b).2 hold :=
  h.giveBack.1.release h.loc_of_mem.1 h.giveBack.2

theorem Pool.dropRef (h : Pool s hold) (hb : s.build.hasBuffer b) : Pool (s.dropRef b) hold := by
  rcases s.dropRef_cases b with ⟨-, e⟩ | ⟨href, e⟩
  · rwa [e]
  · rw [e]
    obtain ⟨-, -, hspare⟩ := h.buffers b hb
    exact h.setBuf hb ⟨rfl, rfl⟩ (fun hl => absurd (hspare hl) href) fun m hm => h.long _ hm

theorem Pool.dropRetx (h : Pool s hold) (hb : s.build.hasBuffer b) : Pool (s.dropRetx b) hold := by
  unfold State.dropRetx
  split
  · next hheld => exact (h.dropRef hb).release (s.dropRef_build b ▸ hb) hheld
  · exact h.dropRef hb

end
end Sys2Proof.Machine

/-! ### The holder registers (10_state.md R31) and the pool invariants of a state -/

namespace Sys2Proof.Machine

/-- A register holds the buffer it names, of at least `n` bytes, or nothing. -/
def holding (b : Handle) (n : Nat) : List (Handle × Nat) := if b = NONE then [] else [(b, n)]

@[simp] theorem holding_none (n : Nat) : holding NONE n = [] := rfl

theorem holding_of_ne {b : Handle} (h : b ≠ NONE) (n : Nat) : holding b n = [(b, n)] := if_neg h

theorem mem_holding {b : Handle} {n : Nat} {p : Handle × Nat} : p ∈ holding b n ↔ b ≠ NONE ∧ p = (b, n) := by
  unfold holding
  split <;> simp_all

theorem map_fst_holding (b : Handle) (n : Nat) : (holding b n).map Prod.fst = [b].filter (· ≠ NONE) := by
  by_cases h : b = NONE <;> simp [holding, h]

/-- The buffers that the registers of a SLIP channel hold. -/
def SlipChan.claim (z : SlipChan) : List (Handle × Nat) := holding z.rxbuf 0 ++ holding z.txcur 0

/-- The buffer that a slot has staged, and how many bytes it has at least (R260). -/
def Conn.claim (x : Conn) : List (Handle × Nat) := holding x.staged (x.soff.toNat + 1)

/-- What the holder registers of a state hold. -/
def State.held (s : State) : List (Handle × Nat) := s.slf.flatMap SlipChan.claim ++ s.conns.flatMap Conn.claim

/-- Items 1 to 5 of R33, RETX and SOFF. -/
structure PoolSound (s : State) : Prop where
  pool : Pool s s.held
  retx : s.retxOk

section
variable {s t : State} {b : Handle} {n c k : Nat} {hold : List (Handle × Nat)}

theorem map_fst_held_perm (s : State) : (s.held.map Prod.fst).Perm s.holders := by
  have hslip : ((s.slf.flatMap SlipChan.claim).map Prod.fst).Perm
      ((s.slf.map (·.rxbuf) ++ s.slf.map (·.txcur)).filter (· ≠ NONE)) := by
    have hclaim (z : SlipChan) : z.claim.map Prod.fst = ([z.rxbuf] ++ [z.txcur]).filter (· ≠ NONE) := by
      rw [SlipChan.claim, List.map_append, map_fst_holding, map_fst_holding, List.filter_append]
    have hflat : (s.slf.flatMap SlipChan.claim).map Prod.fst =
        (s.slf.flatMap fun z => [z.rxbuf] ++ [z.txcur]).filter (· ≠ NONE) := by
      rw [List.map_flatMap, List.filter_flatMap]
      simp only [hclaim]
    rw [hflat, List.map_eq_flatMap, List.map_eq_flatMap]
    exact (List.flatMap_append_perm _ _ _).symm.filter _
  have hconn : (s.conns.flatMap Conn.claim).map Prod.fst = (s.conns.map (·.staged)).filter (· ≠ NONE) := by
    rw [List.map_flatMap, List.map_eq_flatMap, List.filter_flatMap]
    simp only [Conn.claim, map_fst_holding]
  rw [State.held, State.holders, List.map_append, List.filter_append, hconn]
  exact hslip.append_right _

theorem mem_slip_claim {z : SlipChan} {p : Handle × Nat} (h : p ∈ z.claim) : p.2 = 0 := by
  rcases List.mem_append.1 h with h | h
  · rw [(mem_holding.1 h).2]
  · rw [(mem_holding.1 h).2]

theorem Pool.holdersOk (h : Pool s s.held) : s.holdersOk := by
  have hperm := map_fst_held_perm s
  refine ⟨hperm.nodup_iff.1 h.nodup, fun b hb => ?_, fun b hb => hperm.mem_iff.symm.trans (h.mem b hb)⟩
  obtain ⟨p, hp, rfl⟩ := List.mem_map.1 (hperm.mem_iff.2 hb)
  exact h.has p hp

theorem Pool.stagedOk (h : Pool s s.held) : s.stagedOk := fun x hx hne =>
  h.long (x.staged, x.soff.toNat + 1)
    (List.mem_append_right _ (List.mem_flatMap.2 ⟨x, hx, mem_holding.2 ⟨hne, rfl⟩⟩))

/-- The named parts of soundness. -/
theorem sound_iff : s.sound ↔ Bounded s ∧ PoolSound s := by
  constructor
  · intro h
    have hchains := chainsSound_of_sound h
    refine ⟨bounded_of_sound h, ?_⟩
    obtain ⟨-, -, -, ⟨hnodup, hhas, hmem⟩, hbuffers, hretx, hstaged⟩ := h
    have hperm := map_fst_held_perm s
    refine ⟨⟨hchains, hperm.nodup_iff.2 hnodup, fun p hp => hhas _ (hperm.mem_iff.1 (List.mem_map_of_mem hp)),
      fun b hb => hperm.mem_iff.trans (hmem b hb), fun p hp => ?_, hbuffers⟩, hretx⟩
    rcases List.mem_append.1 hp with hp | hp
    · obtain ⟨z, -, hz⟩ := List.mem_flatMap.1 hp
      rw [mem_slip_claim hz]
      exact Nat.zero_le _
    · obtain ⟨x, hx, hp⟩ := List.mem_flatMap.1 hp
      obtain ⟨hne, rfl⟩ := mem_holding.1 hp
      exact hstaged x hx hne
  · rintro ⟨hb, h⟩
    obtain ⟨hshaped, hfields⟩ := bounded_iff.1 hb
    exact ⟨hshaped, hfields, fun c hc => holdsChain_iff.2 (h.pool.chains.holds c hc), h.pool.holdersOk, h.pool.buffers, h.retx,
      h.pool.stagedOk⟩

/-! #### Updates of the registers -/

/-- An update of a number that names no slot does nothing. -/
theorem setConn_of_length_le (h : s.conns.length ≤ k) (f : Conn → Conn) : s.setConn k f = s := by
  rw [State.setConn, List.modify_eq_self h]

theorem setSlip_of_length_le (h : s.slf.length ≤ c - 1) (f : SlipChan → SlipChan) : s.setSlip c f = s := by
  rw [State.setSlip, List.modify_eq_self h]

/-- What one element of a list gives, beside what the others give, and after an update of that element. -/
theorem flatMap_modify_perm {α β : Type} (g : α → List β) {l : List α} {i : Nat} (hi : i < l.length) (f : α → α) :
    ((l.modify i f).flatMap g).Perm (g (f l[i]) ++ ((l.take i).flatMap g ++ (l.drop (i + 1)).flatMap g)) := by
  rw [List.modify_eq_take_cons_drop hi, List.flatMap_append, List.flatMap_cons, ← List.append_assoc, ← List.append_assoc]
  exact List.perm_append_comm.append_right _

theorem flatMap_split_perm {α β : Type} (g : α → List β) {l : List α} {i : Nat} (hi : i < l.length) :
    (l.flatMap g).Perm (g l[i] ++ ((l.take i).flatMap g ++ (l.drop (i + 1)).flatMap g)) := by
  simpa using flatMap_modify_perm g hi id

/-- What a slot holds stands beside what everything else holds. -/
theorem held_setConn (hk : k < s.conns.length) :
    ∃ rest, s.held.Perm ((s.conn k).claim ++ rest) ∧ ∀ f, (s.setConn k f).held.Perm ((f (s.conn k)).claim ++ rest) := by
  rw [State.conn, List.getD_eq_getElem _ _ hk]
  refine ⟨((s.conns.take k).flatMap Conn.claim ++ (s.conns.drop (k + 1)).flatMap Conn.claim) ++ s.slf.flatMap SlipChan.claim,
    ?_, fun f => ?_⟩
  · rw [← List.append_assoc]
    exact List.perm_append_comm.trans ((flatMap_split_perm _ hk).append_right _)
  · rw [← List.append_assoc]
    exact List.perm_append_comm.trans ((flatMap_modify_perm _ hk f).append_right _)

/-- What a channel holds stands beside what everything else holds. -/
theorem held_setSlip (hc : c - 1 < s.slf.length) :
    ∃ rest, s.held.Perm ((s.slip c).claim ++ rest) ∧ ∀ f, (s.setSlip c f).held.Perm ((f (s.slip c)).claim ++ rest) := by
  rw [State.slip, List.getD_eq_getElem _ _ hc]
  refine ⟨((s.slf.take (c - 1)).flatMap SlipChan.claim ++ (s.slf.drop (c - 1 + 1)).flatMap SlipChan.claim) ++
    s.conns.flatMap Conn.claim, ?_, fun f => ?_⟩
  · rw [← List.append_assoc]
    exact (flatMap_split_perm _ hc).append_right _
  · rw [← List.append_assoc]
    exact (flatMap_modify_perm _ hc f).append_right _

theorem held_congr (hslf : t.slf = s.slf) (hconns : t.conns = s.conns) : t.held = s.held := by
  rw [State.held, State.held, hslf, hconns]

/-- A change of the pool alone. -/
theorem PoolSound.edit (h : PoolSound s) (he : PoolEdit s t) (ht : Pool t s.held) : PoolSound t where
  pool := held_congr he.slf he.conns ▸ ht
  retx := by
    rw [State.retxOk, he.conns, he.build]
    exact h.retx

theorem PoolSound.congr (h : PoolSound s) (hbuild : t.build = s.build) (hbufs : t.bufs = s.bufs) (hchains : t.chains = s.chains)
    (hslf : t.slf = s.slf) (hconns : t.conns = s.conns) : PoolSound t where
  pool := held_congr hslf hconns ▸ h.pool.congr hbuild hbufs hchains
  retx := by
    rw [State.retxOk, hconns, hbuild]
    exact h.retx

/-- The retransmit buffer that an update may leave a slot with. -/
theorem retxOk_setConn (h : s.retxOk) {f : Conn → Conn}
    (hretx : (f (s.conn k)).retx = (s.conn k).retx ∨ (f (s.conn k)).retx = NONE ∨ s.build.hasBuffer (f (s.conn k)).retx) :
    (s.setConn k f).retxOk := by
  refine forall_mem_modify idleConn h fun hk => ?_
  rcases hretx with e | e
  · exact e ▸ h _ (conn_mem hk)
  · exact e

/-- An update of a slot that keeps what it has staged. -/
theorem PoolSound.setConn_claim (h : PoolSound s) {f : Conn → Conn} (hclaim : (f (s.conn k)).claim = (s.conn k).claim)
    (hretx : (f (s.conn k)).retx = (s.conn k).retx ∨ (f (s.conn k)).retx = NONE ∨ s.build.hasBuffer (f (s.conn k)).retx) :
    PoolSound (s.setConn k f) := by
  refine ⟨?_, retxOk_setConn h.retx hretx⟩
  rcases Nat.lt_or_ge k s.conns.length with hk | hk
  · obtain ⟨rest, hold, hnew⟩ := held_setConn hk
    exact (h.pool.setConn k f).perm (hold.trans (hclaim ▸ (hnew f).symm))
  · rw [setConn_of_length_le hk]
    exact h.pool

theorem PoolSound.setConn (h : PoolSound s) {f : Conn → Conn} (hkeep : ∀ x, (f x).staged = x.staged ∧ (f x).soff = x.soff)
    (hretx : (∀ x, (f x).retx = x.retx) ∨ (∀ x, (f x).retx = NONE) ∨ ∃ b, (∀ x, (f x).retx = b) ∧ s.build.hasBuffer b) :
    PoolSound (s.setConn k f) := by
  obtain ⟨hstaged, hsoff⟩ := hkeep (s.conn k)
  refine h.setConn_claim (by rw [Conn.claim, hstaged, hsoff, Conn.claim]) ?_
  rcases hretx with e | e | ⟨b, e, hb⟩
  · exact .inl (e _)
  · exact .inr (.inl (e _))
  · exact .inr (.inr (by rwa [e]))

theorem PoolSound.setConn_keep (h : PoolSound s) {f : Conn → Conn}
    (hkeep : ∀ x, (f x).staged = x.staged ∧ (f x).soff = x.soff ∧ (f x).retx = x.retx := by intro x; exact ⟨rfl, rfl, rfl⟩) :
    PoolSound (s.setConn k f) :=
  h.setConn (fun x => ⟨(hkeep x).1, (hkeep x).2.1⟩) (.inl fun x => (hkeep x).2.2)

theorem hostHeld_setConn {f : Conn → Conn} : (s.setConn k f).hostHeld b ↔ s.hostHeld b := Iff.rfl

/-- An update of a channel that keeps what it holds. -/
theorem PoolSound.setSlip (h : PoolSound s) {f : SlipChan → SlipChan} (hclaim : (f (s.slip c)).claim = (s.slip c).claim) :
    PoolSound (s.setSlip c f) := by
  refine ⟨?_, h.retx⟩
  rcases Nat.lt_or_ge (c - 1) s.slf.length with hc | hc
  · obtain ⟨rest, hold, hnew⟩ := held_setSlip hc
    exact (h.pool.setSlip c f).perm (hold.trans (hclaim ▸ (hnew f).symm))
  · rw [setSlip_of_length_le hc]
    exact h.pool

end
end Sys2Proof.Machine

/-! ### What keeps the pool invariants (40_pool.md section 5, R141) -/

namespace Sys2Proof.Machine

section
variable {s t : State} {b : Handle} {n c k : Nat} {hold : List (Handle × Nat)}

theorem State.popHead_poolEdit (s : State) (c : Nat) : PoolEdit s (s.popHead c).2 := by
  rcases s.popHead_cases c with ⟨-, e⟩ | ⟨-, e⟩
  · exact e ▸ PoolEdit.refl s
  · exact e ▸ (((PoolEdit.refl s).setChain _ _).setBuf _ _).setBuf _ _

theorem State.takeSpare_poolEdit (s : State) : PoolEdit s s.takeSpare.2 := by
  rcases s.takeSpare_cases with ⟨-, e⟩ | ⟨-, e⟩
  · exact e ▸ PoolEdit.refl s
  · exact e ▸ (s.popHead_poolEdit SPARE).setBuf _ _

theorem PoolSound.takeSpare (h : PoolSound s) : PoolSound s.takeSpare.2 := h.edit s.takeSpare_poolEdit h.pool.takeSpare

theorem PoolSound.release (h : PoolSound s) (hb : s.build.hasBuffer b) (hheld : s.hostHeld b) : PoolSound (s.release b).2 :=
  h.edit (s.release_poolEdit b) (h.pool.release hb hheld)

theorem PoolSound.pushTail (h : PoolSound s) (hc : c < 3 + s.build.nchan) (h0 : c ≠ SPARE) (hb : s.build.hasBuffer b)
    (hheld : s.hostHeld b) : PoolSound (s.pushTail c b) :=
  h.edit (s.pushTail_poolEdit c b) (h.pool.pushTail hc h0 hb hheld)

theorem PoolSound.send (h : PoolSound s) (hb : s.build.hasBuffer b) (hheld : s.hostHeld b) : PoolSound (s.send b) :=
  h.pushTail (Nat.lt_add_right _ (by decide)) (by decide) hb hheld

theorem PoolSound.setBuf (h : PoolSound s) (hb : s.build.hasBuffer b) {f : Buffer → Buffer}
    (hlink : (f (s.buf b)).next = (s.buf b).next ∧ (f (s.buf b)).loc = (s.buf b).loc)
    (href : (s.buf b).loc = .chain SPARE → (f (s.buf b)).ref = 0)
    (hlong : ∀ m, (b, m) ∈ s.held → m ≤ (f (s.buf b)).len.toNat) : PoolSound (s.setBuf b f) :=
  h.edit ((PoolEdit.refl s).setBuf b f) (h.pool.setBuf hb hlink href hlong)

/-- The record of a host-held buffer may change, but for its link and place. -/
theorem PoolSound.setBuf_held (h : PoolSound s) (hb : s.build.hasBuffer b) (hheld : s.hostHeld b) {f : Buffer → Buffer}
    (hlink : ∀ x, (f x).next = x.next ∧ (f x).loc = x.loc := by intro x; exact ⟨rfl, rfl⟩) : PoolSound (s.setBuf b f) := by
  refine h.setBuf hb (hlink _) (by simp [hheld]) fun m hm => ?_
  exact absurd (List.mem_map_of_mem hm) (h.pool.notMem_of_ne_hold (by simp [hheld]))

theorem PoolSound.memEdit (h : PoolSound s) (hst : MemEdit s t) : PoolSound t := by
  obtain ⟨m, rfl, -⟩ := hst
  exact h.congr rfl rfl rfl rfl rfl

/-! #### A slot's record together with the pool -/

/-- The pool changes, and the record of slot `k` with it: what the slot holds is what the pool's change gives and takes. -/
theorem PoolSound.slotEdit (h : PoolSound s) (hk : k < s.conns.length) {f : Conn → Conn} (hbuild : t.build = s.build)
    (hslf : t.slf = s.slf) (hconns : t.conns = s.conns.modify k f)
    (hpool : ∀ rest, Pool s ((s.conn k).claim ++ rest) → Pool t ((f (s.conn k)).claim ++ rest))
    (hretx : (f (s.conn k)).retx = (s.conn k).retx ∨ (f (s.conn k)).retx = NONE ∨ s.build.hasBuffer (f (s.conn k)).retx) :
    PoolSound t := by
  obtain ⟨rest, hold, hnew⟩ := held_setConn hk
  refine ⟨?_, ?_⟩
  · rw [held_congr (s := s.setConn k f) hslf hconns]
    exact (hpool rest (h.pool.perm hold)).perm (hnew f).symm
  · rw [State.retxOk, hconns, hbuild]
    exact retxOk_setConn h.retx hretx

/-- The pool changes, and the registers of channel `c` with it. -/
theorem PoolSound.slipEdit (h : PoolSound s) (hc : c - 1 < s.slf.length) {f : SlipChan → SlipChan} (he : PoolEdit s t)
    (hpool : ∀ rest, Pool s ((s.slip c).claim ++ rest) → Pool t ((f (s.slip c)).claim ++ rest)) : PoolSound (t.setSlip c f) := by
  obtain ⟨rest, hold, hnew⟩ := held_setSlip hc
  have hslf : (t.setSlip c f).slf = (s.setSlip c f).slf := by rw [State.setSlip, he.slf, State.setSlip]
  refine ⟨?_, ?_⟩
  · rw [held_congr hslf he.conns]
    exact ((hpool rest (h.pool.perm hold)).setSlip c f).perm (hnew f).symm
  · rw [State.retxOk, State.setSlip_conns, he.conns, State.setSlip_build, he.build]
    exact h.retx

theorem conn_lt_of_staged (h : (s.conn k).staged ≠ NONE) : k < s.conns.length := by
  by_contra hk
  exact h (by rw [conn_of_length_le (Nat.le_of_not_lt hk)]; rfl)

theorem conn_lt_of_retx (h : (s.conn k).retx ≠ NONE) : k < s.conns.length := by
  by_contra hk
  exact h (by rw [conn_of_length_le (Nat.le_of_not_lt hk)]; rfl)

theorem PoolSound.retx_hasBuffer (h : PoolSound s) (hretx : (s.conn k).retx ≠ NONE) : s.build.hasBuffer (s.conn k).retx :=
  (h.retx _ (conn_mem (conn_lt_of_retx hretx))).resolve_left hretx

/-! #### `ReleaseStaged`, `ReleaseRetx` and `Refill` (R242, R243, R260) -/

theorem Pool.releaseStaged (h : Pool s ((b, n) :: hold)) (hstaged : (s.conn k).staged = b) : Pool (s.releaseStaged k) hold := by
  subst hstaged
  rw [State.releaseStaged_some (h.chains.ne_none h.loc_of_mem.1)]
  exact h.giveBack_release.setConn k _

theorem State.releaseStaged_conns (s : State) (h : (s.conn k).staged ≠ NONE) :
    (s.releaseStaged k).conns = s.conns.modify k fun x => { x with staged := NONE, soff := 0 } := by
  rw [State.releaseStaged_some h, State.setConn, (s.setLoc_release_poolEdit _).conns]

theorem claim_of_staged_ne {x : Conn} (h : x.staged ≠ NONE) : x.claim = [(x.staged, x.soff.toNat + 1)] := holding_of_ne h _

theorem claim_of_staged_none {x : Conn} (h : x.staged = NONE) : x.claim = [] := by rw [Conn.claim, h, holding_none]

theorem PoolSound.releaseStaged (h : PoolSound s) (k : Nat) : PoolSound (s.releaseStaged k) := by
  by_cases hstaged : (s.conn k).staged = NONE
  · rwa [s.releaseStaged_none k hstaged]
  · refine h.slotEdit (conn_lt_of_staged hstaged) (s.releaseStaged_build k) (s.releaseStaged_slotEdit k).slf
      (s.releaseStaged_conns hstaged) (fun rest hrest => ?_) (.inl rfl)
    rw [claim_of_staged_ne hstaged] at hrest
    exact hrest.releaseStaged rfl

theorem PoolSound.releaseRetx (h : PoolSound s) (k : Nat) : PoolSound (s.releaseRetx k) := by
  by_cases hretx : (s.conn k).retx = NONE
  · rwa [s.releaseRetx_none k hretx]
  · rw [State.releaseRetx_some hretx]
    have hdropped := h.edit (s.dropRetx_poolEdit _) (h.pool.dropRetx (h.retx_hasBuffer hretx))
    exact hdropped.setConn (by intro x; exact ⟨rfl, rfl⟩) (.inr (.inl (by intro x; rfl)))

theorem PoolSound.refill (h : PoolSound s) (k : Nat) : PoolSound (s.refill k) := by
  by_cases hstaged : (s.conn k).staged = NONE
  · rwa [s.refill_none k hstaged]
  · have hk := conn_lt_of_staged hstaged
    unfold State.refill
    rw [if_neg hstaged]
    dsimp only
    generalize hfill : (fun y : Conn => { y with
      rfifo := y.rfifo ++ s.readBytes (s.conn k).staged (s.conn k).soff.toNat (s.refillCount k),
      soff := y.soff + BitVec.ofNat 16 (s.refillCount k) }) = f
    have hconn : (s.setConn k f).conn k = f (s.conn k) := s.conn_setConn_same k f hk
    have hkeeps : (f (s.conn k)).staged = (s.conn k).staged ∧ (f (s.conn k)).retx = (s.conn k).retx := by
      rw [← hfill]
      exact ⟨rfl, rfl⟩
    obtain ⟨hsame, hretx⟩ := hkeeps
    split
    · have hne : ((s.setConn k f).conn k).staged ≠ NONE := by rwa [hconn, hsame]
      refine h.slotEdit hk (State.releaseStaged_build _ k) (State.releaseStaged_slotEdit _ k).slf
        ((State.releaseStaged_conns _ hne).trans (List.modify_modify_eq _ _ _ _)) (fun rest hrest => ?_) (.inl hretx)
      rw [claim_of_staged_ne hstaged] at hrest
      exact (hrest.setConn k f).releaseStaged (by rw [hconn, hsame])
    · next hmore =>
      refine h.slotEdit hk rfl rfl rfl (fun rest hrest => ?_) (.inl hretx)
      rw [claim_of_staged_ne hstaged] at hrest
      rw [claim_of_staged_ne (hsame ▸ hstaged), hsame]
      rw [hconn] at hmore
      exact (hrest.setConn k f).relong (Nat.lt_of_not_le hmore)

theorem PoolSound.readLoop (k : Nat) {fuel want : Nat} {out : List Byte} (h : PoolSound s) :
    PoolSound (State.readLoop k fuel want out s).2 := by
  induction fuel generalizing want out s with
  | zero => exact h
  | succ fuel ih =>
    have hread : PoolSound (s.setConn k fun x => { x with rfifo := x.rfifo.drop (min want (s.conn k).rfifo.length) }) :=
      h.setConn_keep
    unfold State.readLoop
    dsimp only
    split
    · exact hread
    · exact ih (hread.refill k)

theorem releaseStaged_staged (s : State) (k : Nat) : ((s.releaseStaged k).conn k).staged = NONE := by
  rcases Nat.lt_or_ge k s.conns.length with hk | hk
  · rw [State.releaseStaged_conn hk]
  · rw [conn_of_length_le ((s.releaseStaged_slotEdit k).conns_length ▸ hk)]
    rfl

theorem releaseRetx_staged (s : State) (k : Nat) : ((s.releaseRetx k).conn k).staged = (s.conn k).staged := by
  rcases Nat.lt_or_ge k s.conns.length with hk | hk
  · rw [State.releaseRetx_conn hk]
  · rw [conn_of_length_le ((s.releaseRetx_slotEdit k).conns_length ▸ hk), conn_of_length_le hk]

theorem PoolSound.resetSlot (h : PoolSound s) (k : Nat) : PoolSound (s.resetSlot k) := by
  refine ((h.releaseStaged k).releaseRetx k).setConn_claim ?_ (.inr (.inl rfl))
  rw [claim_of_staged_none ((releaseRetx_staged _ k).trans (releaseStaged_staged s k))]
  rfl

theorem PoolSound.abandon (h : PoolSound s) (k : Nat) : PoolSound (s.abandon k) := (h.releaseRetx k).setConn_keep

end
end Sys2Proof.Machine

/-! ### What keeps the pool invariants, continued: packets, updates, claims and frames -/

namespace Sys2Proof.Machine

section
variable {s t : State} {b : Handle} {n c k : Nat}

/-! #### Packets written and sent (R200 to R203, R244, R263) -/

/-- LEN and CHAN of a host-held buffer change, and data bytes. -/
theorem PoolSound.built (h : PoolSound s) (hb : s.build.hasBuffer b) (hheld : s.hostHeld b) {f : Buffer → Buffer}
    (hlink : ∀ x, (f x).next = x.next ∧ (f x).loc = x.loc) (hbuild : t.build = s.build)
    (hbufs : t.bufs = s.bufs.modify b.toNat f) (hchains : t.chains = s.chains) (hslf : t.slf = s.slf)
    (hconns : t.conns = s.conns) : PoolSound t ∧ t.hostHeld b := by
  refine ⟨(h.setBuf_held hb hheld hlink).congr hbuild hbufs hchains hslf hconns, ?_⟩
  obtain ⟨-, hloc⟩ := hlink (s.buf b)
  rw [State.hostHeld, State.buf_congr (s := s.setBuf b f) hbufs, State.buf_setBuf_same _ _ _ (h.pool.lt hb), hloc, hheld]

theorem PoolSound.buildTcp (h : PoolSound s) (hb : s.build.hasBuffer b) (hheld : s.hostHeld b) (k : Nat) (fl : Byte)
    (d : List Byte) : PoolSound (s.buildTcp b k fl d) ∧ (s.buildTcp b k fl d).hostHeld b :=
  h.built hb hheld (by intro x; exact ⟨rfl, rfl⟩) (by simp) (s.buildTcp_bufs b k fl d) (by simp) (by simp) (by simp)

theorem PoolSound.buildUdp (h : PoolSound s) (hb : s.build.hasBuffer b) (hheld : s.hostHeld b) (k : Nat) (d : List Byte) :
    PoolSound (s.buildUdp b k d) ∧ (s.buildUdp b k d).hostHeld b :=
  h.built hb hheld (by intro x; exact ⟨rfl, rfl⟩) (by simp) (s.buildUdp_bufs b k d) (by simp) (by simp) (by simp)

theorem PoolSound.buildEcho (h : PoolSound s) (hb : s.build.hasBuffer b) (hheld : s.hostHeld b) (seq : Half) :
    PoolSound (s.buildEcho b seq) :=
  (h.built hb hheld (by intro x; exact ⟨rfl, rfl⟩) (by simp) (s.buildEcho_bufs b seq) (by simp) (by simp) (by simp)).1

theorem PoolSound.sendData (h : PoolSound s) (hb : s.build.hasBuffer b) (hheld : s.hostHeld b) (k : Nat) (d : List Byte) :
    PoolSound (s.sendData k b d) := by
  unfold State.sendData
  split
  · obtain ⟨hbuilt, hoff⟩ := h.buildTcp hb hheld k (flAck ||| flPsh) d
    exact hbuilt.setConn_keep.send (by simpa using hb) (hostHeld_setConn.2 hoff)
  · obtain ⟨hbuilt, hoff⟩ := h.buildUdp hb hheld k d
    exact hbuilt.send (by simpa using hb) hoff

/-! #### CONN_UPDATE (R270 to R275) -/

theorem PoolSound.spare (h : PoolSound s) (hne : s.takeSpare.1 ≠ NONE) :
    s.takeSpare.2.build.hasBuffer s.takeSpare.1 ∧ s.takeSpare.2.hostHeld s.takeSpare.1 := by
  obtain ⟨hb, hheld⟩ := h.pool.chains.takeSpare_held hne
  exact ⟨s.takeSpare_poolEdit.build ▸ hb, hheld⟩

theorem PoolSound.handshake (h : PoolSound s) (k : Nat) (fl : Byte) : PoolSound (s.handshake k fl) := by
  rw [State.handshake_eq]
  split
  · exact h
  · next hne =>
    obtain ⟨hb, hheld⟩ := h.spare hne
    generalize s.takeSpare.1 = b at hb hheld ⊢
    obtain ⟨hbuilt, hoff⟩ := h.takeSpare.buildTcp hb hheld k fl []
    have hb' : (s.takeSpare.2.buildTcp b k fl []).build.hasBuffer b := by simpa using hb
    generalize s.takeSpare.2.buildTcp b k fl [] = u at hbuilt hoff hb' ⊢
    have hcounted : PoolSound (u.setBuf b fun x => { x with ref := x.ref + 1 }) := hbuilt.setBuf_held hb' hoff
    have hoff' : (u.setBuf b fun x => { x with ref := x.ref + 1 }).hostHeld b := by
      rw [State.hostHeld, State.buf_setBuf_same _ _ _ (hbuilt.pool.lt hb'), hoff]
    refine (hcounted.send hb' hoff').setConn (by intro x; exact ⟨rfl, rfl⟩) (.inr (.inr ⟨b, by intro x; rfl, ?_⟩))
    rw [State.send, (State.pushTail_poolEdit _ _ _).build]
    exact hb'

theorem PoolSound.retransmit (h : PoolSound s) (k : Nat) : PoolSound (s.retransmit k) := by
  unfold State.retransmit
  dsimp only
  split
  · exact h.setConn_keep
  · next hretx =>
    split
    · next hoff => exact (h.send (h.retx_hasBuffer hretx) hoff).setConn_keep
    · exact h

theorem PoolSound.bareAck (h : PoolSound s) (k : Nat) : PoolSound (s.bareAck k) := by
  unfold State.bareAck
  dsimp only
  split
  · exact h
  · next hne =>
    obtain ⟨hb, hheld⟩ := h.spare hne
    obtain ⟨hbuilt, hoff⟩ := h.takeSpare.buildTcp hb hheld k flAck []
    exact (hbuilt.send (by simpa using hb) hoff).setConn_keep

theorem PoolSound.drainWfifo (h : PoolSound s) (k : Nat) : PoolSound (s.drainWfifo k) := by
  unfold State.drainWfifo
  dsimp only
  split
  · exact h
  · next hne =>
    obtain ⟨hb, hheld⟩ := h.spare hne
    exact (h.takeSpare.setConn_keep).sendData hb hheld k _

theorem PoolSound.updateTcp (h : PoolSound s) (k : Nat) : PoolSound (s.updateTcp k) := by
  unfold State.updateTcp
  dsimp only
  split_ifs
  · exact h.handshake k _
  · exact h.handshake k _
  · exact h.retransmit k
  · exact h.drainWfifo k
  · exact h.bareAck k
  · exact h

theorem PoolSound.updateUdp (h : PoolSound s) (k : Nat) : PoolSound (s.updateUdp k) := by
  unfold State.updateUdp
  dsimp only
  split_ifs
  · exact h.drainWfifo k
  · exact h

theorem PoolSound.updateClosing (h : PoolSound s) (k : Nat) : PoolSound (s.updateClosing k) := by
  unfold State.updateClosing
  dsimp only
  split
  · exact h.setConn_keep
  · exact h

theorem PoolSound.updateSlot (h : PoolSound s) (k : Nat) : PoolSound (s.updateSlot k) := by
  unfold State.updateSlot
  dsimp only
  split
  · exact ((h.refill k).updateTcp k).updateClosing k
  · exact ((h.refill k).updateUdp k).updateClosing k

theorem PoolSound.updateAll (h : PoolSound s) (ks : List Nat) : PoolSound (s.updateAll ks) := by
  induction ks generalizing s with
  | nil => exact h
  | cons k ks ih =>
    unfold State.updateAll
    split
    · exact ih (h.updateSlot k)
    · exact ih h

/-! #### Claims (R290 to R299) -/

/-- A claim of the host-held buffer `b` answered `c` and left `t`: the pool is sound, and the buffer is still host-held where CONN_ACCEPT
has to release it. -/
structure ClaimSound (b : Handle) (r : Claim × State) : Prop where
  sound : PoolSound r.2
  held : r.1 = .consumed ∨ r.1 = .dropped → r.2.build.hasBuffer b ∧ r.2.hostHeld b

theorem ClaimSound.of_held (h : PoolSound t) (hb : t.build.hasBuffer b) (hheld : t.hostHeld b) (a : Claim) : ClaimSound b (a, t) :=
  ⟨h, fun _ => ⟨hb, hheld⟩⟩

theorem ClaimSound.settled {r : Claim × State} (h : ClaimSound b r) : PoolSound (r.2.settled b r.1) := by
  obtain ⟨a, t⟩ := r
  cases a with
  | staged => exact h.sound
  | deliver => exact h.sound
  | consumed =>
    obtain ⟨hb, hheld⟩ := h.held (.inl rfl)
    exact h.sound.release hb hheld
  | dropped =>
    obtain ⟨hb, hheld⟩ := h.held (.inr rfl)
    exact h.sound.release hb hheld

theorem ClaimSound.deliver (h : PoolSound s) (hk : k < s.conns.length) (hb : s.build.hasBuffer b) (hheld : s.hostHeld b)
    {poff plen : Nat} (hpay : plen ≠ 0 → poff < (s.buf b).len.toNat) : ClaimSound b (s.deliver k b poff plen) := by
  rcases s.deliver_cases k b poff plen with ⟨-, e⟩ | ⟨-, -, e⟩ | ⟨-, -, -, e⟩ | ⟨-, hplen, hstaged, e⟩
  all_goals rw [e]
  · exact ⟨h.setConn_keep, by simp⟩
  · exact .of_held h hb hheld _
  · exact .of_held h hb hheld _
  · refine ⟨?_, by simp⟩
    have hlt : poff < 65536 := (hpay hplen).trans (s.buf b).len.isLt
    have hsoff : (BitVec.ofNat 16 poff).toNat = poff := Nat.mod_eq_of_lt hlt
    refine h.slotEdit hk rfl rfl rfl (fun rest hrest => ?_) (.inl rfl)
    rw [claim_of_staged_none hstaged] at hrest
    rw [claim_of_staged_ne (h.pool.chains.ne_none hb)]
    refine (hrest.setConn k _).takeUp hb hheld ?_
    rw [hsoff]
    exact hpay hplen

theorem ClaimSound.dropWithAck (h : PoolSound s) (hb : s.build.hasBuffer b) (hheld : s.hostHeld b) (k : Nat) :
    ClaimSound b (s.dropWithAck k) :=
  .of_held (h.setConn_keep) hb hheld _

theorem ClaimSound.tcpOpenRx (h : PoolSound s) (hk : k < s.conns.length) (hb : s.build.hasBuffer b) (hheld : s.hostHeld b)
    {g : Segment} (hpay : g.plen ≠ 0 → g.poff < (s.buf b).len.toNat) : ClaimSound b (s.tcpOpenRx k b g) := by
  unfold State.tcpOpenRx
  dsimp only
  split_ifs
  · exact .dropWithAck h hb hheld k
  · exact .dropWithAck h hb hheld k
  · exact .of_held h hb hheld _
  · exact .of_held h hb hheld _
  · exact .deliver (h.setConn_keep) (by simpa using hk) hb hheld hpay

theorem releaseRetxOffered_conns_length (s : State) (k : Nat) (b : Handle) :
    (s.releaseRetxOffered k b).conns.length = s.conns.length := by
  by_cases h : (s.conn k).retx = b
  · rw [s.releaseRetxOffered_own k b h, State.setConn_conns_length, (s.dropRef_poolEdit b).conns]
  · rw [s.releaseRetxOffered_other k b h, (s.releaseRetx_slotEdit k).conns_length]

/-- The offered buffer keeps its length and stays host-held (log entry 11). -/
theorem PoolSound.releaseRetxOffered (h : PoolSound s) (k : Nat) (hb : s.build.hasBuffer b) (hheld : s.hostHeld b) :
    PoolSound (s.releaseRetxOffered k b) ∧ (s.releaseRetxOffered k b).hostHeld b ∧
      ((s.releaseRetxOffered k b).buf b).len = (s.buf b).len := by
  by_cases hown : (s.conn k).retx = b
  · have hbuf := State.dropRef_buf_same (h.pool.lt hb)
    rw [s.releaseRetxOffered_own k b hown]
    have hdropped := h.edit (s.dropRef_poolEdit b) (h.pool.dropRef hb)
    refine ⟨hdropped.setConn (by intro x; exact ⟨rfl, rfl⟩) (.inr (.inl (by intro x; rfl))), ?_, ?_⟩
    · rw [State.hostHeld, State.buf_congr (State.setConn_bufs _ _ _), hbuf, hheld]
    · rw [State.buf_congr (State.setConn_bufs _ _ _), hbuf]
  · rw [s.releaseRetxOffered_other k b hown]
    have hbuf : (s.releaseRetx k).buf b = s.buf b := by
      by_cases hretx : (s.conn k).retx = NONE
      · rw [s.releaseRetx_none k hretx]
      · obtain ⟨hframe, -⟩ := retxDropped_releaseRetx h.pool.chains (h.retx_hasBuffer hretx)
        exact hframe b (Ne.symm hown)
    exact ⟨h.releaseRetx k, by rw [State.hostHeld, hbuf, hheld], by rw [hbuf]⟩

theorem ClaimSound.claimSynSent (h : PoolSound s) (hb : s.build.hasBuffer b) (hheld : s.hostHeld b) (k : Nat) (g : Segment) :
    ClaimSound b (s.claimSynSent k b g) := by
  unfold State.claimSynSent
  dsimp only
  split_ifs
  · have hset : PoolSound (s.setConn k fun y => { y with rcvAck := g.seq + 1, sndSeq := y.sndSeq + 1 }) := h.setConn_keep
    obtain ⟨hsound, hoff, -⟩ := hset.releaseRetxOffered k (b := b) hb hheld
    exact .of_held (hsound.setConn_keep) (by simpa using hb) hoff _
  · exact .of_held h hb hheld _

theorem ClaimSound.claimSynRcvd (h : PoolSound s) (hk : k < s.conns.length) (hb : s.build.hasBuffer b) (hheld : s.hostHeld b)
    {g : Segment} (hpay : g.plen ≠ 0 → g.poff < (s.buf b).len.toNat) : ClaimSound b (s.claimSynRcvd k b g) := by
  unfold State.claimSynRcvd
  dsimp only
  split_ifs
  · have hset : PoolSound (s.setConn k fun y => { y with sndSeq := y.sndSeq + 1 }) := h.setConn_keep
    obtain ⟨hsound, hoff, hlen⟩ := hset.releaseRetxOffered k (b := b) hb hheld
    refine .tcpOpenRx (hsound.setConn_keep) ?_ (by simpa using hb) hoff ?_
    · rw [State.setConn_conns_length, releaseRetxOffered_conns_length, State.setConn_conns_length]
      exact hk
    · intro hplen
      refine (hpay hplen).trans_eq ?_
      rw [State.buf_congr (State.setConn_bufs _ _ _), hlen]
      rfl
  · exact .dropWithAck h hb hheld k

theorem ClaimSound.claimTcp (h : PoolSound s) (hk : k < s.conns.length) (hb : s.build.hasBuffer b) (hheld : s.hostHeld b)
    {src : List Byte} {sport : Half} {g : Segment} (hpay : g.plen ≠ 0 → g.poff < (s.buf b).len.toNat) {r : Claim × State}
    (hr : s.claimTcp k b src sport g = some r) : ClaimSound b r := by
  unfold State.claimTcp at hr
  dsimp only at hr
  split_ifs at hr
  · cases hr
    exact .of_held (h.setConn_keep) hb hheld _
  · split at hr
    all_goals cases hr
    · exact .claimSynSent h hb hheld k g
    · exact .claimSynRcvd h hk hb hheld hpay
    · exact .tcpOpenRx h hk hb hheld hpay
    · exact .of_held h hb hheld _

theorem ClaimSound.claimUdp (h : PoolSound s) (hk : k < s.conns.length) (hb : s.build.hasBuffer b) (hheld : s.hostHeld b)
    {o n : Nat} (hpay : n - 8 ≠ 0 → o + 8 < (s.buf b).len.toNat) : ClaimSound b (s.claimUdp k b o n) := by
  unfold State.claimUdp
  split
  · exact .of_held h hb hheld _
  · exact .deliver h hk hb hheld hpay

/-- The transport message at `o` ends where the packet ends, so a payload starts inside the packet. -/
theorem ClaimSound.claim (h : PoolSound s) (hk : k < s.conns.length) (hb : s.build.hasBuffer b) (hheld : s.hostHeld b)
    {p : Byte} {o n : Nat} (hn : n = (s.buf b).len.toNat - o) {r : Claim × State} (hr : s.claim k b p o n = some r) :
    ClaimSound b r := by
  unfold State.claim at hr
  dsimp only at hr
  split_ifs at hr
  split at hr
  · cases hr
    exact .claimUdp h hk hb hheld (by omega)
  · refine .claimTcp h hk hb hheld ?_ hr
    simp only [State.segment]
    omega

end
end Sys2Proof.Machine

/-! ### What keeps the pool invariants, continued: frames, reset, and every command -/

namespace Sys2Proof.Machine

section
variable {s t : State} {b : Handle} {n c k : Nat} {hold : List (Handle × Nat)}

/-! #### The SLIP framer (R221 to R227) -/

theorem State.setLoc_setSlip (s : State) (c : Nat) (f : SlipChan → SlipChan) (b : Handle) (l : Loc) :
    (s.setSlip c f).setLoc b l = (s.setLoc b l).setSlip c f := rfl

theorem State.release_setSlip (s : State) (c : Nat) (f : SlipChan → SlipChan) (b : Handle) :
    ((s.setSlip c f).release b).2 = ((s.release b).2).setSlip c f := by
  unfold State.release
  rw [State.setSlip_buf]
  split <;> rfl

theorem Pool.unique (h : Pool s hold) {m : Nat} (hn : (b, n) ∈ hold) (hm : (b, m) ∈ hold) : n = m := by
  have := List.inj_on_of_nodup_map h.nodup hn hm rfl
  exact (Prod.mk.inj this).2

/-- What item 3 of R33 says of RXBUF. -/
theorem PoolSound.rxbuf (h : PoolSound s) (hc : c - 1 < s.slf.length) (hne : (s.slip c).rxbuf ≠ NONE) :
    s.build.hasBuffer (s.slip c).rxbuf ∧ (s.buf (s.slip c).rxbuf).loc = .hold ∧ ((s.slip c).rxbuf, 0) ∈ s.held := by
  have hmem : ((s.slip c).rxbuf, 0) ∈ s.held :=
    List.mem_append_left _ (List.mem_flatMap.2 ⟨_, slip_mem hc, List.mem_append_left _ (mem_holding.2 ⟨hne, rfl⟩)⟩)
  have hb := h.pool.has _ hmem
  exact ⟨hb, (h.pool.mem _ hb).1 (List.mem_map_of_mem hmem), hmem⟩

/-- The length of a receive buffer is free. -/
theorem PoolSound.setRxLen (h : PoolSound s) (hc : c - 1 < s.slf.length) (hne : (s.slip c).rxbuf ≠ NONE) {f : Buffer → Buffer}
    (hlink : ∀ x, (f x).next = x.next ∧ (f x).loc = x.loc) : PoolSound (s.setBuf (s.slip c).rxbuf f) := by
  obtain ⟨hb, hloc, hmem⟩ := h.rxbuf hc hne
  refine h.setBuf hb (hlink _) (by simp [hloc]) fun m hm => ?_
  rw [← h.pool.unique hmem hm]
  exact Nat.zero_le _

theorem PoolSound.slipStore (h : PoolSound s) {c : Byte} (hc : c.toNat - 1 < s.slf.length) (hne : (s.slip c.toNat).rxbuf ≠ NONE)
    (x : Byte) : PoolSound (slipStore c (s.slip c.toNat).rxbuf x s) := by
  unfold Machine.slipStore
  split
  · exact h.setSlip rfl
  · have hwritten : PoolSound (s.writeBytes (s.slip c.toNat).rxbuf (s.buf (s.slip c.toNat).rxbuf).len.toNat [x]) :=
      h.congr rfl rfl rfl rfl rfl
    exact hwritten.setRxLen (c := c.toNat) hc hne (by intro y; exact ⟨rfl, rfl⟩)

theorem PoolSound.rxByte (h : PoolSound s) {c : Byte} (hc : c.toNat - 1 < s.slf.length) (hne : (s.slip c.toNat).rxbuf ≠ NONE)
    (x : Byte) : PoolSound (s.rxByte c (s.slip c.toNat).rxbuf x) := by
  have hplain (y : Byte) : PoolSound (Machine.slipStore c (s.slip c.toNat).rxbuf y
      (s.setSlip c.toNat fun z => { z with rxesc := false })) := by
    have hset : PoolSound (s.setSlip c.toNat fun z => { z with rxesc := false }) := h.setSlip rfl
    have hslip := s.slip_setSlip_same c.toNat (fun z => { z with rxesc := false }) hc
    have hbuf : ((s.setSlip c.toNat fun z => { z with rxesc := false }).slip c.toNat).rxbuf = (s.slip c.toNat).rxbuf := by
      rw [hslip]
    rw [← hbuf] at hne ⊢
    exact hset.slipStore (by simpa using hc) hne y
  unfold State.rxByte
  split
  · exact hplain _
  · split
    · exact h.setSlip rfl
    · exact h.slipStore hc hne x

theorem PoolSound.loadRx (h : PoolSound s) (hc : c - 1 < s.slf.length) (hidle : (s.slip c).rxbuf = NONE)
    (hb : s.build.hasBuffer b) (hheld : s.hostHeld b) : PoolSound (s.loadRx c b) := by
  refine h.slipEdit (t := s.setLoc b .hold) hc ((PoolEdit.refl s).setBuf b _) fun rest hrest => ?_
  simp only [SlipChan.claim, hidle, holding_none, List.nil_append] at hrest
  simp only [SlipChan.claim, holding_of_ne (h.pool.chains.ne_none hb)]
  exact hrest.takeUp hb hheld (Nat.zero_le _)

theorem PoolSound.loadTx (h : PoolSound s) (hc : c - 1 < s.slf.length) (hidle : (s.slip c).txcur = NONE)
    (hb : s.build.hasBuffer b) (hheld : s.hostHeld b) (ph : TxPhase) : PoolSound (s.loadTx c b ph) := by
  refine h.slipEdit (t := s.setLoc b .hold) hc ((PoolEdit.refl s).setBuf b _) fun rest hrest => ?_
  simp only [SlipChan.claim, hidle, holding_none, List.append_nil] at hrest
  simp only [SlipChan.claim, holding_of_ne (h.pool.chains.ne_none hb), List.append_assoc, List.singleton_append]
  exact (hrest.takeUp hb hheld (Nat.zero_le _)).perm List.perm_middle.symm

theorem PoolSound.txEnd (h : PoolSound s) (hc : c - 1 < s.slf.length) (hne : (s.slip c).txcur ≠ NONE) :
    PoolSound (s.txEnd c (s.slip c).txcur) := by
  rw [State.txEnd, State.setLoc_setSlip, State.release_setSlip]
  refine h.slipEdit hc (s.setLoc_release_poolEdit _) fun rest hrest => ?_
  simp only [SlipChan.claim, holding_of_ne hne, List.append_assoc, List.singleton_append] at hrest
  simp only [SlipChan.claim, holding_none, List.append_nil]
  exact (hrest.perm List.perm_middle).giveBack_release

theorem PoolSound.txStep (h : PoolSound s) (hb : Bounded s) (hc : c - 1 < s.slf.length) (ht : TxStep s c t) : PoolSound t := by
  cases ht with
  | advance f hph hf =>
    obtain ⟨hrx, htx, -⟩ := hf
    exact h.setSlip (by rw [SlipChan.claim, hrx, htx, SlipChan.claim])
  | last hph =>
    refine h.txEnd hc fun hnone => ?_
    rw [hb.phase _ (slip_mem hc), hph] at hnone
    cases hnone

/-- The frame's buffer leaves its holder for PENDING, and a host-held buffer takes its place. -/
theorem PoolSound.rxQueue (h : PoolSound s) {c : Byte} (hc : c.toNat - 1 < s.slf.length) (hne : (s.slip c.toNat).rxbuf ≠ NONE)
    {r : Handle} (hr : s.build.hasBuffer r) (hheld : s.hostHeld r) : PoolSound (s.rxQueue c (s.slip c.toNat).rxbuf r) := by
  obtain ⟨hb, hloc, -⟩ := h.rxbuf hc hne
  have hrne : r ≠ (s.slip c.toNat).rxbuf := by
    rintro rfl
    rw [hheld] at hloc
    cases hloc
  unfold State.rxQueue
  generalize hbuf : (s.slip c.toNat).rxbuf = b at hb hloc hrne hne ⊢
  have hoff : s.setBuf b (fun y => { y with chan := c.setWidth 4, loc := .off }) =
      (s.setLoc b .off).setBuf b fun y => { y with chan := c.setWidth 4 } := by
    simp only [State.setBuf, State.setLoc, List.modify_modify_eq]
    rfl
  rw [hoff]
  generalize hu : ((s.setLoc b .off).setBuf b fun y => { y with chan := c.setWidth 4 }) = u
  have hedit : PoolEdit s u := hu ▸ ((PoolEdit.refl s).setBuf b _).setBuf b _
  have hur : (u.buf r).loc = .off := by
    rw [← hu, State.buf_setBuf_ne _ _ hrne, State.setLoc_buf_ne hrne]
    exact hheld
  refine h.slipEdit (t := (u.pushTail PENDING b).setLoc r .hold) hc ((hedit.trans (u.pushTail_poolEdit _ _)).setBuf r _)
    fun rest hrest => ?_
  simp only [SlipChan.claim, hbuf, holding_of_ne hne, holding_of_ne (h.pool.chains.ne_none hr),
    List.singleton_append] at hrest ⊢
  obtain ⟨hpool, hbheld⟩ := hrest.giveBack
  have hub : (u.buf b).loc = .off := by
    rw [← hu, State.buf_setBuf_same _ _ _ (hpool.lt hb)]
    exact hbheld
  have hupool : Pool u (holding (s.slip c.toNat).txcur 0 ++ rest) := by
    rw [← hu]
    exact hpool.setBuf hb ⟨rfl, rfl⟩ (by simp [hbheld]) fun m hm =>
      absurd (List.mem_map_of_mem hm) (hpool.notMem_of_ne_hold (by simp [hbheld]))
  have hpend : PENDING < 3 + u.build.nchan := Nat.lt_add_right _ (by decide)
  have hub' : u.build.hasBuffer b := hedit.build ▸ hb
  have hpushed := hupool.pushTail hpend (by decide) hub' hub
  have htags := (hupool.chains.pushTail_edit hpend hub' (hostHeld_free hub)).tags r hrne
  refine hpushed.takeUp ?_ ?_ (Nat.zero_le _)
  · rw [(u.pushTail_poolEdit PENDING b).build, hedit.build]
    exact hr
  · rw [State.hostHeld, htags]
    exact hur

end
end Sys2Proof.Machine

/-! ### Reset (R340, R341), and every command keeps the pool (R141) -/

namespace Sys2Proof.Machine

/-! #### The chains right after reset -/

section
variable {g : Config}

/-- The handles of the pool in order. -/
def poolHandles (g : Config) : List Handle := (List.range g.nbuf).map (BitVec.ofNat 8)

theorem poolHandles_getElem {i : Nat} (hi : i < (poolHandles g).length) : (poolHandles g)[i] = BitVec.ofNat 8 i := by simp [poolHandles]

@[simp] theorem poolHandles_length : (poolHandles g).length = g.nbuf := by simp [poolHandles]

theorem mem_poolHandles (hg : g.valid) {b : Handle} : b ∈ (poolHandles g) ↔ g.hasBuffer b := by
  obtain ⟨⟨-, hle⟩, -⟩ := hg
  simp only [poolHandles, List.mem_map, List.mem_range]
  constructor
  · rintro ⟨i, hi, rfl⟩
    exact (Nat.mod_le _ _).trans_lt hi
  · exact fun hb => ⟨b.toNat, hb, by simp⟩

theorem toNat_ofNat_lt (hg : g.valid) {i : Nat} (hi : i < g.nbuf) : (BitVec.ofNat 8 i).toNat = i := by
  obtain ⟨⟨-, hle⟩, -⟩ := hg
  exact Nat.mod_eq_of_lt (by omega)

theorem poolHandles_nodup (hg : g.valid) : (poolHandles g).Nodup := by
  refine List.nodup_range.map_on fun i hi j hj e => ?_
  rw [← toNat_ofNat_lt hg (List.mem_range.1 hi), e, toNat_ofNat_lt hg (List.mem_range.1 hj)]

theorem resetOf_holds_spare (hg : g.valid) : HoldsChain (State.resetOf g) SPARE (poolHandles g) where
  head := by
    obtain ⟨⟨hpos, -⟩, -⟩ := hg
    rw [State.resetOf_chain_spare, poolHandles]
    obtain ⟨m, hm⟩ : ∃ m, g.nbuf = m + 1 := ⟨g.nbuf - 1, by omega⟩
    rw [hm, List.range_succ_eq_map]
    rfl
  tail := by
    obtain ⟨⟨hpos, -⟩, -⟩ := hg
    rw [State.resetOf_chain_spare, poolHandles]
    obtain ⟨m, hm⟩ : ∃ m, g.nbuf = m + 1 := ⟨g.nbuf - 1, by omega⟩
    rw [hm, List.range_succ, List.map_append, List.map_singleton, List.getLastD_concat]
    rfl
  count := by
    obtain ⟨⟨-, hle⟩, -⟩ := hg
    rw [State.resetOf_chain_spare, poolHandles_length]
    exact Nat.mod_eq_of_lt (by omega)
  links := by
    refine List.ext_getElem (by simp) fun i hi _ => ?_
    have hlt : i < g.nbuf := by simpa using hi
    have hb : g.hasBuffer (BitVec.ofNat 8 i) := by rwa [Config.hasBuffer, toNat_ofNat_lt hg hlt]
    rw [List.getElem_map, List.getElem_tail, poolHandles_getElem, State.resetOf_buf hb, toNat_ofNat_lt hg hlt, resetBuffer]
    by_cases hlast : i + 1 < g.nbuf
    · rw [List.getElem_append_left (by simpa using hlast), poolHandles_getElem]
      exact if_pos hlast
    · rw [List.getElem_append_right (by simpa using hlast)]
      exact (if_neg hlast).trans (by simp)
  nodup := poolHandles_nodup hg
  hasBuffer b hb := (mem_poolHandles hg).1 hb
  mem_iff b hb := by
    rw [State.resetOf_buf (g := g) hb]
    exact iff_of_true ((mem_poolHandles hg).2 hb) rfl

theorem resetOf_holds_nil {c : Nat} (hc : 1 ≤ c) : HoldsChain (State.resetOf g) c [] where
  head := by rw [State.resetOf_chain hc]; rfl
  tail := by rw [State.resetOf_chain hc]; rfl
  count := by rw [State.resetOf_chain hc]; rfl
  links := linkedTo_nil
  nodup := List.nodup_nil
  hasBuffer := by simp
  mem_iff b hb := by
    rw [State.resetOf_buf (g := g) hb]
    refine iff_of_false List.not_mem_nil fun h => ?_
    cases Loc.chain.inj h
    omega

theorem resetOf_chainsSound (hg : g.valid) : ChainsSound (State.resetOf g) where
  nbuf_le := hg.1.2
  bufs_length := (Bounded.resetOf hg).bufs_length
  chains_length := (Bounded.resetOf hg).chains_length
  holds c _ := by
    rcases Nat.eq_zero_or_pos c with rfl | hc
    · rw [(resetOf_holds_spare hg).chainList_eq hg.1.2]
      exact resetOf_holds_spare hg
    · rw [(resetOf_holds_nil hc).chainList_eq hg.1.2]
      exact resetOf_holds_nil hc

theorem resetOf_poolSound (hg : g.valid) : PoolSound (State.resetOf g) := by
  have hheld : (State.resetOf g).held = [] := by
    simp [State.held, State.resetOf, idleChannel, idleConn, SlipChan.claim, Conn.claim]
  refine ⟨hheld ▸ ⟨resetOf_chainsSound hg, List.nodup_nil, by simp, fun b hb => ?_, by simp, fun b hb => ?_⟩, ?_⟩
  · rw [State.resetOf_buf (g := g) hb]
    simp [resetBuffer]
  · refine bufferOk_of_chain (c := SPARE) ?_ (spare_lt _) fun _ => ?_
    all_goals
      rw [State.resetOf_buf (g := g) hb]
      rfl
  · intro x hx
    obtain rfl := List.eq_of_mem_replicate hx
    exact .inl rfl

end

/-- Settles O11: SPARE holds every handle in order, the other chains and the holders nothing. -/
theorem resetStateIsSound : Obligations.ResetStateIsSound := by
  have hreset (g : Config) (hg : g.valid) : (State.resetOf g).sound := sound_iff.2 ⟨Bounded.resetOf hg, resetOf_poolSound hg⟩
  exact ⟨hreset _ (by decide), hreset⟩

/-! #### Every effect -/

section
variable {s t : State} {i : Instr}

theorem PoolSound.softReset (hb : Bounded s) : PoolSound s.softReset := (resetOf_poolSound hb.valid).congr rfl rfl rfl rfl rfl

theorem Bounded.slip_lt (h : Bounded s) {c : Byte} (hc : s.build.hasChannel c) : c.toNat - 1 < s.slf.length :=
  slip_index_lt (bounded_iff.1 h).1 hc

/-- R114 leaves every buffer that is not on SPARE as it was. -/
theorem ChainsSound.takeSpare_buf_of_loc (hs : ChainsSound s) {b : Handle} (hloc : (s.buf b).loc ≠ .chain SPARE) :
    s.takeSpare.2.buf b = s.buf b := by
  cases hl : s.chainList SPARE with
  | nil => rw [hs.takeSpare_nil hl]
  | cons f l =>
    obtain ⟨-, -, hframe, -⟩ := hs.takeSpare_cons hl
    refine hframe b ?_
    rintro rfl
    exact hloc ((hs.holds SPARE (spare_lt s)).loc_eq (hl ▸ List.mem_cons_self))

theorem State.loadRx_slf_length (s : State) (c : Nat) (b : Handle) : (s.loadRx c b).slf.length = s.slf.length :=
  s.setSlip_slf_length c _

theorem State.loadRx_rxbuf {c : Nat} (b : Handle) (hc : c - 1 < s.slf.length) : ((s.loadRx c b).slip c).rxbuf = b := by
  have hslip : (s.loadRx c b).slip c = { s.slip c with rxbuf := b } := s.slip_setSlip_same c _ hc
  rw [hslip]

theorem remove_poolEdit {c : Nat} {b : Handle} (h : s.remove c b = some t) : PoolEdit s t := by
  rcases s.remove_cases c b with ⟨-, e⟩ | ⟨prev, hprev, -⟩
  · rw [e] at h
    cases h
  · rw [s.remove_eq_unlink hprev] at h
    cases h
    exact s.unlink_poolEdit c prev b

theorem Effect.poolSound (he : Effect s i t) (hb : Bounded s) (h : PoolSound s) : PoolSound t := by
  cases he with
  | nothing => exact h
  | data i m hm => exact h.memEdit ⟨m, rfl, hm⟩
  | takeSpare => exact h.takeSpare
  | release hbuf hheld => exact h.release hbuf hheld
  | queue hbuf hheld hspare =>
    have hkept := h.pool.chains.takeSpare_buf_of_loc (b := _) (by rw [hheld]; simp)
    exact h.takeSpare.pushTail (Nat.lt_add_right _ (by decide)) (by decide) (s.takeSpare_poolEdit.build ▸ hbuf)
      (by rw [State.hostHeld, hkept]; exact hheld)
  | ref hbuf hloc => exact h.setBuf hbuf ⟨rfl, rfl⟩ (fun e => absurd e hloc) fun m hm => h.pool.long _ hm
  | unref hbuf href =>
    obtain ⟨-, -, hspare⟩ := h.pool.buffers _ hbuf
    exact h.setBuf hbuf ⟨rfl, rfl⟩ (fun e => absurd (hspare e) href) fun m hm => h.pool.long _ hm
  | push hc h0 hbuf hheld =>
    have hlt := hasChain_iff.1 hc
    split
    · exact h.edit (s.pushHead_poolEdit _ _) (h.pool.pushHead hlt (fun e => absurd e h0) hbuf hheld)
    · exact h.pushTail hlt h0 hbuf hheld
  | pop hc => exact h.edit (s.popHead_poolEdit _) (h.pool.popHead (hasChain_iff.1 hc))
  | remove hc _ hbuf hloc hr => exact h.edit (remove_poolEdit hr) (h.pool.remove (hasChain_iff.1 hc) hbuf hloc hr)
  | setlen hbuf _ hheld => exact h.setBuf_held hbuf hheld
  | setchan hbuf hheld => exact h.setBuf_held hbuf hheld
  | csa i a => exact h.congr rfl rfl rfl rfl rfl
  | buildEcho hbuf hheld => exact h.buildEcho hbuf hheld _
  | rxNothing => exact h.setSlip rfl
  | rxDrop hc hne => exact (h.setRxLen (hb.slip_lt hc) hne (by intro x; exact ⟨rfl, rfl⟩)).setSlip rfl
  | @rxQueue c _ hc hne hspare =>
    obtain ⟨hr, hheld⟩ := h.spare hspare
    have hslip : s.takeSpare.2.slip c.toNat = s.slip c.toNat := State.slip_congr s.takeSpare_poolEdit.slf _
    rw [← hslip] at hne ⊢
    exact h.takeSpare.rxQueue (s.takeSpare_poolEdit.slf ▸ hb.slip_lt hc) hne hr hheld
  | rxByte hc hne => exact h.rxByte (hb.slip_lt hc) hne _
  | @rxFirst c x hc hidle hspare =>
    obtain ⟨hr, hheld⟩ := h.spare hspare
    have hlt : c.toNat - 1 < s.takeSpare.2.slf.length := s.takeSpare_poolEdit.slf ▸ hb.slip_lt hc
    have hslip : s.takeSpare.2.slip c.toNat = s.slip c.toNat := State.slip_congr s.takeSpare_poolEdit.slf _
    have hloaded := h.takeSpare.loadRx hlt (hslip ▸ hidle) hr hheld
    have hrx := State.loadRx_rxbuf s.takeSpare.1 hlt
    have hbyte := hloaded.rxByte (c := c) (by rwa [State.loadRx_slf_length]) (hrx.symm ▸ hspare) x
    rwa [hrx] at hbyte
  | tx hc _ ht => exact h.txStep hb (hb.slip_lt hc) ht
  | @txFirst c _ hc hidle hhead ht =>
    have hlt : txChain c.toNat < 3 + s.build.nchan := txChain_lt hc
    obtain ⟨hr, hheld⟩ := h.pool.chains.popHead_held hlt hhead
    have hpopped := h.edit (s.popHead_poolEdit _) (h.pool.popHead hlt)
    have hslf := (s.popHead_poolEdit (txChain c.toNat)).slf
    have hloaded := hpopped.loadTx (hslf ▸ hb.slip_lt hc) ((State.slip_congr hslf _).symm ▸ hidle)
      ((s.popHead_poolEdit _).build ▸ hr) hheld (startPhase s)
    exact hloaded.txStep ((hb.popHead _).loadTx _ hhead startPhase_ne_idle)
      (by rw [State.loadTx, State.setLoc_slf, State.setSlip_slf_length, hslf]; exact hb.slip_lt hc) ht
  | init => exact (h.resetSlot _).setConn_keep
  | reg => exact h.setConn_keep
  | reset => exact h.resetSlot _
  | setremote => exact h.setConn_keep
  | openUdp => exact h.setConn_keep
  | openTcp => exact h.setConn_keep
  | connect => exact h.setConn_keep
  | closeOpened => exact h.setConn_keep
  | abandon => exact h.abandon _
  | listener => exact h.setConn_keep
  | events => exact h.setConn_keep
  | getremote => exact h.congr rfl rfl rfl rfl rfl
  | retxDue => exact h.setConn_keep
  | gaveup => exact h.setConn_keep
  | read => exact h.readLoop _
  | fill => exact h.setConn_keep
  | @send k _ d _ _ _ _ _ hspare =>
    have hfilled : PoolSound (s.fillWfifo k.toNat d) := h.setConn_keep
    obtain ⟨hr, hheld⟩ := hfilled.spare hspare
    exact hfilled.takeSpare.setConn_keep.sendData hr (hostHeld_setConn.2 hheld) _ _
  | update => exact h.updateSlot _
  | updateAll => exact h.updateAll _
  | accept hbuf hheld hsniff hoffer =>
    obtain ⟨before, after, hks, -, hclaim, -⟩ := (State.offer_eq_some _ _ _ _ _ _ _ _).1 hoffer
    have hk := List.mem_range.1 (hks ▸ List.mem_append_right before List.mem_cons_self)
    obtain ⟨-, hn, -⟩ := sniffBytes_packet hsniff
    rw [State.packet, State.readBytes_length] at hn
    exact (ClaimSound.claim h (hb.conns_length ▸ hk) hbuf hheld hn hclaim).settled
  | softReset => exact PoolSound.softReset hb

theorem PoolSound.finish (h : PoolSound s) (op err : Byte) (r0 r1 : Word) : PoolSound (s.finish op err r0 r1) :=
  h.congr rfl rfl rfl rfl rfl

theorem exec_sound (hs : s.sound) (he : exec i s = .next t) : t.sound := by
  obtain ⟨hb, h⟩ := sound_iff.1 hs
  refine sound_iff.2 ⟨exec_bounded hb he, ?_⟩
  rcases exec_next he with ⟨e, -, rfl⟩ | ⟨-, u, r0, r1, hu, rfl⟩
  · exact h.finish _ e 0 0
  · exact (hu.poolSound hb h).finish _ _ _ _

/-! #### No command is stuck in a sound state -/

theorem not_stuck_of_sound (hs : s.sound) : ¬ Stuck s i := by
  have hchains := chainsSound_of_sound hs
  have hb := bounded_of_sound hs
  intro h
  cases h with
  | remove hc hbuf hloc hnone =>
    have hmember := hchains.holds _ (hasChain_iff.1 hc)
    obtain ⟨l, m, hlist⟩ := List.append_of_mem ((hmember.mem_iff _ hbuf).2 hloc)
    rw [hlist] at hmember
    rw [hchains.remove_eq hmember] at hnone
    cases hnone
  | tx hc hcur hph => exact hcur ((hb.phase _ (slip_mem (hb.slip_lt hc))).2 hph)
  | @txFirst c hc hph =>
    have hslf := (s.popHead_poolEdit (txChain c.toNat)).slf
    rw [State.loadTx_slip_same (hslf ▸ hb.slip_lt hc)] at hph
    exact startPhase_ne_idle hph

theorem operandCode_le {e : Byte} (h : operandCode i s = some e) : e.toNat ≤ 11 := by
  unfold operandCode at h
  split_ifs at h
  all_goals
    cases h
    decide

theorem stateCode_le {e : Byte} (h : stateCode i s = some e) : e.toNat ≤ 11 := by
  unfold stateCode at h
  split at h
  · cases h
    decide
  · split at h
    case h_7 =>
      split at h
      · cases h
      · cases h
        decide
    case h_8 => cases h
    all_goals
      split_ifs at h
      all_goals
        cases h
        decide

/-- The table has no other code (R321). -/
theorem errorOf_le {e : Byte} (h : errorOf i s = some e) : e.toNat ≤ 11 := by
  rcases Option.or_eq_some_iff.1 h with h | ⟨-, h⟩
  · exact operandCode_le h
  · exact stateCode_le h

end

/-- Settles O23, by the named parts of soundness, which every effect keeps. -/
theorem everyCommandKeepsThePool : Obligations.EveryCommandKeepsThePool := fun _ _ _ hs he => exec_sound hs he

/-- Settles O25: a command past its checks that does not answer is stuck, which in a sound state it is not. -/
theorem soundCommandsComplete : Obligations.SoundCommandsComplete := by
  intro i s hs
  cases he : errorOf i s with
  | some e => exact ⟨_, exec_of_errorOf he, rfl, errorOf_le he⟩
  | none =>
    rcases exec_ends he with ⟨u, r0, r1, -, hdone⟩ | ⟨-, hstuck⟩
    · exact ⟨_, hdone, rfl, Nat.zero_le _⟩
    · exact absurd hstuck (not_stuck_of_sound hs)

end Sys2Proof.Machine

/-! ### Every buffer is counted once (10_state.md R33 item 6) -/

namespace Sys2Proof.Machine

section
variable {s : State}

/-- The buffer records in the order of their handles. -/
theorem bufs_eq_map (hs : s.shaped) : s.bufs = (poolHandles s.build).map s.buf := by
  obtain ⟨hvalid, hbufs, -⟩ := hs
  refine List.ext_getElem (by simp [hbufs]) fun i hi hi' => ?_
  have hlt : i < s.build.nbuf := hbufs ▸ hi
  rw [List.getElem_map, poolHandles_getElem, State.buf, toNat_ofNat_lt hvalid hlt, List.getD_eq_getElem _ _ hi]

/-- The count register of a chain is the number of buffers whose LOC names it. -/
theorem count_eq_countP (hs : s.shaped) {c : Nat} {l : List Handle} (h : HoldsChain s c l) :
    (s.chain c).count.toNat = s.bufs.countP (fun x => x.loc = .chain c) := by
  have hvalid := hs.1
  have hperm : l.Perm ((poolHandles s.build).filter fun b => (s.buf b).loc = .chain c) := by
    refine (List.perm_ext_iff_of_nodup h.nodup ((poolHandles_nodup hvalid).filter _)).2 fun b => ?_
    rw [List.mem_filter, mem_poolHandles hvalid, decide_eq_true_eq]
    exact ⟨fun hb => ⟨h.hasBuffer b hb, h.loc_eq hb⟩, fun ⟨hb, hloc⟩ => (h.mem_iff b hb).2 hloc⟩
  rw [h.count, hperm.length_eq, bufs_eq_map hs, List.countP_map, List.countP_eq_length_filter]
  rfl

theorem sum_range_map (n : Nat) (f : Nat → Nat) : ((List.range n).map f).sum = ∑ c ∈ Finset.range n, f c := rfl

/-- Every record has one place. -/
theorem sum_places {m : Nat} (l : List Buffer) (h : ∀ x ∈ l, x.loc.known m = true) :
    ((List.range (3 + m)).map fun c => l.countP (fun x => x.loc = .chain c)).sum +
      l.countP (fun x => x.loc = .hold) + l.countP (fun x => x.loc = .off) = l.length := by
  rw [sum_range_map]
  induction l with
  | nil => simp
  | cons x l ih =>
    obtain ⟨hx, hl⟩ := List.forall_mem_cons.1 h
    have hrest := ih hl
    simp only [List.countP_cons, Finset.sum_add_distrib, List.length_cons, decide_eq_true_eq]
    cases hloc : x.loc with
    | hold => simp; omega
    | off => simp; omega
    | chain d =>
      have hd : d < 3 + m := by
        simp only [hloc, Loc.known, decide_eq_true_eq] at hx
        omega
      simp [Finset.sum_ite_eq, hd]
      omega

end

/-- Settles O22: the count of a chain is the number of buffers on it, and every buffer has one place. -/
theorem buffersAreConserved : Obligations.BuffersAreConserved := by
  intro s hs ⟨hchains, _, hbuffers, _⟩
  have hknown : ∀ x ∈ s.bufs, x.loc.known s.build.nchan = true := by
    rw [bufs_eq_map hs]
    intro x hx
    obtain ⟨b, hb, rfl⟩ := List.mem_map.1 hx
    exact (hbuffers b ((mem_poolHandles hs.1).1 hb)).1
  have hcounts : ((List.range (3 + s.build.nchan)).map fun c => (s.chain c).count.toNat) =
      (List.range (3 + s.build.nchan)).map fun c => s.bufs.countP (fun x => x.loc = .chain c) :=
    List.map_congr_left fun c hc => count_eq_countP hs (holdsChain_iff.1 (hchains c (List.mem_range.1 hc)))
  rw [hcounts, sum_places s.bufs hknown]
  exact hs.2.1

end Sys2Proof.Machine

/-! ### Which units a command reaches, and STATE of a slot (10_state.md R26, R27, R34, R53; 44_connection.md R300)

`Keeps R s t`: all but the pool, the data bytes and the slots is as before, and every slot's record has changed by `R`. -/

namespace Sys2Proof.Machine

structure Keeps (R : Conn → Conn → Prop) (s t : State) : Prop where
  setting : SameSetting s t
  regs : t.regs = s.regs
  csa : t.csa = s.csa
  slf : t.slf = s.slf
  conns : ∀ k, R (s.conn k) (t.conn k)

/-- No event is cleared. -/
def Conn.noClear (x y : Conn) : Prop := x.events &&& ~~~y.events = 0

/-- STATE stays and no event is cleared. -/
def Conn.calm (x y : Conn) : Prop := y.state = x.state ∧ x.noClear y

/-- Nor does an empty write FIFO fill. -/
def Conn.quiet (x y : Conn) : Prop := x.calm y ∧ (x.wfifo = [] → y.wfifo = [])

theorem Conn.noClear_refl (x : Conn) : x.noClear x := by simp [Conn.noClear]

theorem and_not_or_self (v e : BitVec 4) : v &&& ~~~(v ||| e) = 0 := by
  ext i hi
  rw [BitVec.getElem_and, BitVec.getElem_not, BitVec.getElem_or]
  cases v[i] <;> simp

theorem and_not_trans {u v w : BitVec 4} (h : u &&& ~~~v = 0) (h' : v &&& ~~~w = 0) : u &&& ~~~w = 0 := by
  ext i hi
  have hu := congrArg (·[i]) h
  have hv := congrArg (·[i]) h'
  simp at hu hv ⊢
  tauto

theorem Conn.noClear_or {x y : Conn} (e : BitVec 4) (h : y.events = x.events ||| e) : x.noClear y := by
  rw [Conn.noClear, h]
  exact and_not_or_self _ _

theorem Conn.noClear_trans {x y z : Conn} (h : x.noClear y) (h' : y.noClear z) : x.noClear z := and_not_trans h h'

theorem Conn.calm_trans {x y z : Conn} (h : x.calm y) (h' : y.calm z) : x.calm z :=
  ⟨h'.1.trans h.1, Conn.noClear_trans h.2 h'.2⟩

theorem Conn.quiet_trans {x y z : Conn} (h : x.quiet y) (h' : y.quiet z) : x.quiet z :=
  ⟨Conn.calm_trans h.1 h'.1, h'.2 ∘ h.2⟩

theorem Conn.quiet_refl (x : Conn) : x.quiet x := ⟨⟨rfl, x.noClear_refl⟩, id⟩

section
variable {R : Conn → Conn → Prop} {s t u : State} {b : Handle} {k : Nat}

theorem SameSetting.trans (h : SameSetting s t) (h' : SameSetting t u) : SameSetting s u := by
  obtain ⟨hbuild, hdraw, hinput, hread⟩ := h
  obtain ⟨hbuild', hdraw', hinput', hread'⟩ := h'
  exact ⟨hbuild'.trans hbuild, hdraw'.trans hdraw, hinput'.trans hinput, hread'.trans hread⟩

theorem Keeps.mono {R' : Conn → Conn → Prop} (h : Keeps R s t) (hR : ∀ x y, R x y → R' x y) : Keeps R' s t :=
  ⟨h.setting, h.regs, h.csa, h.slf, fun k => hR _ _ (h.conns k)⟩

theorem Keeps.comp {R' R'' : Conn → Conn → Prop} (h : Keeps R s t) (h' : Keeps R' t u)
    (hR : ∀ x y z, R x y → R' y z → R'' x z) : Keeps R'' s u :=
  ⟨h.setting.trans h'.setting, h'.regs.trans h.regs, h'.csa.trans h.csa, h'.slf.trans h.slf,
    fun k => hR _ _ _ (h.conns k) (h'.conns k)⟩

/-- Only the pool and data bytes change. -/
theorem keeps_of_same (hR : ∀ x, R x x) (hsetting : SameSetting s t) (hregs : t.regs = s.regs) (hcsa : t.csa = s.csa)
    (hslf : t.slf = s.slf) (hconns : t.conns = s.conns) : Keeps R s t :=
  ⟨hsetting, hregs, hcsa, hslf, fun k => by rw [State.conn_congr hconns]; exact hR _⟩

theorem keeps_setConn {f : Conn → Conn} (hR : ∀ x, R x x) (hf : R (s.conn k) (f (s.conn k))) : Keeps R s (s.setConn k f) := by
  refine ⟨⟨rfl, rfl, rfl, rfl⟩, rfl, rfl, rfl, fun j => ?_⟩
  by_cases hj : j = k
  · subst hj
    rcases Nat.lt_or_ge j s.conns.length with hlt | hge
    · rw [s.conn_setConn_same j f hlt]
      exact hf
    · rw [setConn_of_length_le hge]
      exact hR _
  · rw [s.conn_setConn_ne f hj]
    exact hR _

/-- `Keeps` for operations that change no STATE. -/
abbrev Quiet : State → State → Prop := Keeps Conn.quiet

theorem Quiet.trans (h : Quiet s t) (h' : Quiet t u) : Quiet s u := h.comp h' fun _ _ _ => Conn.quiet_trans

theorem Quiet.refl (s : State) : Quiet s s := keeps_of_same Conn.quiet_refl ⟨rfl, rfl, rfl, rfl⟩ rfl rfl rfl rfl

theorem PoolEdit.quiet (h : PoolEdit s t) : Quiet s t := by
  obtain ⟨hsetting, -, hcsa, hslf, hconns⟩ := h.onlyPool
  exact keeps_of_same Conn.quiet_refl hsetting h.regs hcsa hslf hconns

theorem Quiet.setConn (h : Quiet s t) {f : Conn → Conn}
    (hf : ∀ x, (f x).state = x.state ∧ (∃ e, (f x).events = x.events ||| e) ∧ (x.wfifo = [] → (f x).wfifo = [])) :
    Quiet s (t.setConn k f) := by
  refine h.trans (keeps_setConn Conn.quiet_refl ?_)
  obtain ⟨hstate, ⟨e, he⟩, hw⟩ := hf (t.conn k)
  exact ⟨⟨hstate, Conn.noClear_or e he⟩, hw⟩

/-- An update that does not touch STATE, EVENTS and WFIFO. -/
theorem Quiet.setConn_keep (h : Quiet s t) {f : Conn → Conn}
    (hf : ∀ x, (f x).state = x.state ∧ (f x).events = x.events ∧ (f x).wfifo = x.wfifo := by intro x; exact ⟨rfl, rfl, rfl⟩) :
    Quiet s (t.setConn k f) := by
  refine h.setConn fun x => ?_
  obtain ⟨hstate, hevents, hw⟩ := hf x
  exact ⟨hstate, ⟨0, by simp [hevents]⟩, fun e => hw.trans e⟩

/-! #### The operations on slots -/

theorem releaseStaged_quiet (s : State) (k : Nat) : Quiet s (s.releaseStaged k) := by
  by_cases h : (s.conn k).staged = NONE
  · rw [s.releaseStaged_none k h]
    exact Quiet.refl s
  · exact State.releaseStaged_some h ▸ (s.setLoc_release_poolEdit _).quiet.setConn_keep

theorem releaseRetx_quiet (s : State) (k : Nat) : Quiet s (s.releaseRetx k) := by
  by_cases h : (s.conn k).retx = NONE
  · rw [s.releaseRetx_none k h]
    exact Quiet.refl s
  · exact State.releaseRetx_some h ▸ (s.dropRetx_poolEdit _).quiet.setConn_keep

theorem releaseRetxOffered_quiet (s : State) (k : Nat) (b : Handle) : Quiet s (s.releaseRetxOffered k b) := by
  unfold State.releaseRetxOffered
  split
  · exact (s.dropRef_poolEdit b).quiet.setConn_keep
  · exact releaseRetx_quiet s k

theorem refill_quiet (s : State) (k : Nat) : Quiet s (s.refill k) := by
  unfold State.refill
  dsimp only
  split
  · exact Quiet.refl s
  · split
    · exact (Quiet.refl s).setConn_keep.trans (releaseStaged_quiet _ k)
    · exact (Quiet.refl s).setConn_keep

theorem readLoop_quiet (k : Nat) (fuel want : Nat) (out : List Byte) (s : State) :
    Quiet s (State.readLoop k fuel want out s).2 := by
  induction fuel generalizing want out s with
  | zero => exact Quiet.refl s
  | succ fuel ih =>
    unfold State.readLoop
    dsimp only
    split
    · exact (Quiet.refl s).setConn_keep
    · exact ((Quiet.refl s).setConn_keep.trans (refill_quiet _ k)).trans (ih _ _ _)

theorem buildTcp_quiet (s : State) (b : Handle) (k : Nat) (fl : Byte) (d : List Byte) : Quiet s (s.buildTcp b k fl d) :=
  keeps_of_same Conn.quiet_refl (by simp [SameSetting]) (by simp) (by simp) (by simp) (by simp)

theorem buildUdp_quiet (s : State) (b : Handle) (k : Nat) (d : List Byte) : Quiet s (s.buildUdp b k d) :=
  keeps_of_same Conn.quiet_refl (by simp [SameSetting]) (by simp) (by simp) (by simp) (by simp)

theorem send_quiet (s : State) (b : Handle) : Quiet s (s.send b) := (s.pushTail_poolEdit OUTBOUND b).quiet

theorem sendData_quiet (s : State) (k : Nat) (b : Handle) (d : List Byte) : Quiet s (s.sendData k b d) := by
  unfold State.sendData
  split
  · exact (buildTcp_quiet s b k _ d).setConn_keep.trans (send_quiet _ b)
  · exact (buildUdp_quiet s b k d).trans (send_quiet _ b)

theorem handshake_quiet (s : State) (k : Nat) (fl : Byte) : Quiet s (s.handshake k fl) := by
  rw [State.handshake_eq]
  split
  · exact Quiet.refl s
  · exact (((s.takeSpare_poolEdit.quiet.trans (buildTcp_quiet _ _ k fl [])).trans
      ((PoolEdit.refl _).setBuf _ _).quiet).trans (send_quiet _ _)).setConn_keep

theorem retransmit_quiet (s : State) (k : Nat) : Quiet s (s.retransmit k) := by
  unfold State.retransmit
  dsimp only
  split_ifs
  · exact (Quiet.refl s).setConn_keep
  · exact (send_quiet s _).setConn_keep
  · exact Quiet.refl s

theorem bareAck_quiet (s : State) (k : Nat) : Quiet s (s.bareAck k) := by
  unfold State.bareAck
  dsimp only
  split
  · exact Quiet.refl s
  · exact ((s.takeSpare_poolEdit.quiet.trans (buildTcp_quiet _ _ k flAck [])).trans (send_quiet _ _)).setConn_keep

theorem drainWfifo_quiet (s : State) (k : Nat) : Quiet s (s.drainWfifo k) := by
  unfold State.drainWfifo
  dsimp only
  split
  · exact Quiet.refl s
  · refine Quiet.trans (s.takeSpare_poolEdit.quiet.setConn ?_) (sendData_quiet _ k _ _)
    exact fun x => ⟨rfl, ⟨0, by simp⟩, fun e => by simp [e]⟩

theorem updateTcp_quiet (s : State) (k : Nat) : Quiet s (s.updateTcp k) := by
  unfold State.updateTcp
  dsimp only
  split_ifs
  · exact handshake_quiet s k _
  · exact handshake_quiet s k _
  · exact retransmit_quiet s k
  · exact drainWfifo_quiet s k
  · exact bareAck_quiet s k
  · exact Quiet.refl s

theorem updateUdp_quiet (s : State) (k : Nat) : Quiet s (s.updateUdp k) := by
  unfold State.updateUdp
  dsimp only
  split_ifs
  · exact drainWfifo_quiet s k
  · exact Quiet.refl s

theorem deliver_quiet (s : State) (k : Nat) (b : Handle) (poff plen : Nat) : Quiet s (s.deliver k b poff plen).2 := by
  rcases s.deliver_cases k b poff plen with ⟨-, e⟩ | ⟨-, -, e⟩ | ⟨-, -, -, e⟩ | ⟨-, -, -, e⟩
  all_goals rw [e]
  · exact (Quiet.refl s).setConn (by intro x; exact ⟨rfl, ⟨_, rfl⟩, id⟩)
  · exact Quiet.refl s
  · exact Quiet.refl s
  · refine Quiet.trans ((Quiet.refl s).setConn (k := k) ?_) ((PoolEdit.refl _).setBuf b _).quiet
    exact fun x => ⟨rfl, ⟨_, rfl⟩, id⟩

theorem tcpOpenRx_quiet (s : State) (k : Nat) (b : Handle) (g : Segment) : Quiet s (s.tcpOpenRx k b g).2 := by
  unfold State.tcpOpenRx
  dsimp only
  split_ifs
  · exact (Quiet.refl s).setConn_keep
  · exact (Quiet.refl s).setConn_keep
  · exact Quiet.refl s
  · exact Quiet.refl s
  · exact (Quiet.refl s).setConn_keep.trans (deliver_quiet _ k b _ _)

end
end Sys2Proof.Machine

/-! ### Which units a command reaches, and STATE of a slot, continued: updates, claims and every command -/

namespace Sys2Proof.Machine

/-- What UpdateSlot can do to STATE (R275). -/
def Conn.updated (x y : Conn) : Prop :=
  (y.state = x.state ∨ x.state = .closing ∧ y.state = .closed ∧ y.wfifo = []) ∧ x.noClear y ∧ (x.wfifo = [] → y.wfifo = [])

/-- What a claim can do to STATE (R293 to R295). -/
def Conn.claimed (x y : Conn) : Prop :=
  (y.state = x.state ∨ (x.state = .listen ∧ y.state = .synRcvd) ∨ (x.state = .synSent ∧ y.state = .opened) ∨
    (x.state = .synRcvd ∧ y.state = .opened)) ∧ x.noClear y

theorem Conn.updated_of_quiet {x y : Conn} (h : x.quiet y) : x.updated y := ⟨.inl h.1.1, h.1.2, h.2⟩

theorem Conn.claimed_of_quiet {x y : Conn} (h : x.quiet y) : x.claimed y := ⟨.inl h.1.1, h.1.2⟩

theorem Conn.updated_trans {x y z : Conn} (h : x.updated y) (h' : y.updated z) : x.updated z := by
  obtain ⟨hstate, hev, hw⟩ := h
  obtain ⟨hstate', hev', hw'⟩ := h'
  refine ⟨?_, Conn.noClear_trans hev hev', hw' ∘ hw⟩
  rcases hstate with e | ⟨hx, hy, hempty⟩
  · rw [e] at hstate'
    exact hstate'
  · rcases hstate' with e' | ⟨hy', -⟩
    · exact .inr ⟨hx, e'.trans hy, hw' hempty⟩
    · rw [hy] at hy'
      cases hy'

theorem Conn.claimed_quiet {x y z : Conn} (h : x.claimed y) (h' : y.quiet z) : x.claimed z := by
  obtain ⟨hstate, hev⟩ := h
  obtain ⟨⟨e, hev'⟩, -⟩ := h'
  exact ⟨e ▸ hstate, Conn.noClear_trans hev hev'⟩

theorem Conn.quiet_claimed {x y z : Conn} (h : x.quiet y) (h' : y.claimed z) : x.claimed z := by
  obtain ⟨hstate, hev⟩ := h'
  obtain ⟨⟨e, hev'⟩, -⟩ := h
  exact ⟨e ▸ hstate, Conn.noClear_trans hev' hev⟩

section
variable {s t u : State} {b : Handle} {k : Nat}

/-! #### Updates -/

theorem updateClosing_keeps (s : State) (k : Nat) : Keeps Conn.updated s (s.updateClosing k) := by
  have hrefl (x : Conn) : x.updated x := Conn.updated_of_quiet x.quiet_refl
  unfold State.updateClosing
  dsimp only
  split
  · next h => exact keeps_setConn hrefl ⟨.inr ⟨h.1, rfl, h.2⟩, Conn.noClear_or _ rfl, id⟩
  · exact keeps_of_same hrefl ⟨rfl, rfl, rfl, rfl⟩ rfl rfl rfl rfl

/-- R271 up to its last step. -/
def State.updateSends (s : State) (k : Nat) : State :=
  match ((s.refill k).conn k).proto with
  | .tcp => (s.refill k).updateTcp k
  | .udp => (s.refill k).updateUdp k

theorem State.updateSlot_eq (s : State) (k : Nat) : s.updateSlot k = (s.updateSends k).updateClosing k := rfl

theorem updateSends_quiet (s : State) (k : Nat) : Quiet s (s.updateSends k) := by
  unfold State.updateSends
  split
  · exact (refill_quiet s k).trans (updateTcp_quiet _ k)
  · exact (refill_quiet s k).trans (updateUdp_quiet _ k)

theorem updateSlot_keeps (s : State) (k : Nat) : Keeps Conn.updated s (s.updateSlot k) :=
  (updateSends_quiet s k).comp (updateClosing_keeps _ k) fun _ _ _ h => Conn.updated_trans (Conn.updated_of_quiet h)

theorem updateAll_keeps (s : State) (ks : List Nat) : Keeps Conn.updated s (s.updateAll ks) := by
  induction ks generalizing s with
  | nil => exact (Quiet.refl s).mono fun _ _ => Conn.updated_of_quiet
  | cons k ks ih =>
    unfold State.updateAll
    split
    · exact (updateSlot_keeps s k).comp (ih _) fun _ _ _ => Conn.updated_trans
    · exact ih s

/-! #### Claims -/

theorem Quiet.claimed (h : Quiet s t) : Keeps Conn.claimed s t := h.mono fun _ _ => Conn.claimed_of_quiet

theorem keeps_claimed_setConn {f : Conn → Conn} (hf : (s.conn k).claimed (f (s.conn k))) : Keeps Conn.claimed s (s.setConn k f) :=
  keeps_setConn (fun x => Conn.claimed_of_quiet x.quiet_refl) hf

theorem claimSynSent_keeps (hstate : (s.conn k).state = .synSent) (b : Handle) (g : Segment) :
    Keeps Conn.claimed s (s.claimSynSent k b g).2 := by
  unfold State.claimSynSent
  dsimp only
  split_ifs
  · have hquiet : Quiet s ((s.setConn k fun y => { y with rcvAck := g.seq + 1, sndSeq := y.sndSeq + 1 }).releaseRetxOffered k b) :=
      (Quiet.refl s).setConn_keep.trans (releaseRetxOffered_quiet _ k b)
    have hsame := (hquiet.conns k).1.1
    refine hquiet.comp (keeps_claimed_setConn ?_) fun _ _ _ => Conn.quiet_claimed
    exact ⟨.inr (.inr (.inl ⟨hsame.trans hstate, rfl⟩)), Conn.noClear_or _ rfl⟩
  · exact (Quiet.refl s).claimed

theorem claimSynRcvd_keeps (hstate : (s.conn k).state = .synRcvd) (b : Handle) (g : Segment) :
    Keeps Conn.claimed s (s.claimSynRcvd k b g).2 := by
  unfold State.claimSynRcvd
  dsimp only
  split_ifs
  · have hquiet : Quiet s ((s.setConn k fun y => { y with sndSeq := y.sndSeq + 1 }).releaseRetxOffered k b) :=
      (Quiet.refl s).setConn_keep.trans (releaseRetxOffered_quiet _ k b)
    have hsame := (hquiet.conns k).1.1
    refine (hquiet.comp (keeps_claimed_setConn ?_) fun _ _ _ => Conn.quiet_claimed).comp (tcpOpenRx_quiet _ k b g)
      fun _ _ _ => Conn.claimed_quiet
    exact ⟨.inr (.inr (.inr ⟨hsame.trans hstate, rfl⟩)), Conn.noClear_or _ rfl⟩
  · exact ((Quiet.refl s).setConn_keep : Quiet s (s.dropWithAck k).2).claimed

theorem claimTcp_keeps {src : List Byte} {sport : Half} {g : Segment} {r : Claim × State}
    (hr : s.claimTcp k b src sport g = some r) : Keeps Conn.claimed s r.2 := by
  unfold State.claimTcp at hr
  dsimp only at hr
  split_ifs at hr with hbound hsyn
  · cases hr
    exact keeps_claimed_setConn ⟨.inr (.inl ⟨hsyn.1, rfl⟩), Conn.noClear_or 0 (by simp)⟩
  · split at hr
    all_goals cases hr
    · next hstate => exact claimSynSent_keeps hstate b g
    · next hstate => exact claimSynRcvd_keeps hstate b g
    · exact (tcpOpenRx_quiet s k b g).claimed
    · exact (Quiet.refl s).claimed

theorem claim_keeps {p : Byte} {o n : Nat} {r : Claim × State} (hr : s.claim k b p o n = some r) : Keeps Conn.claimed s r.2 := by
  unfold State.claim at hr
  dsimp only at hr
  split_ifs at hr
  split at hr
  · cases hr
    unfold State.claimUdp
    split
    · exact (Quiet.refl s).claimed
    · exact (deliver_quiet s k b _ _).claimed
  · exact claimTcp_keeps hr

theorem settled_quiet (t : State) (b : Handle) (c : Claim) : Quiet t (t.settled b c) := by
  cases c
  · exact Quiet.refl t
  · exact Quiet.refl t
  · exact (t.release_poolEdit b).quiet
  · exact (t.release_poolEdit b).quiet

theorem accept_keeps {p : Byte} {h n : Nat} {ks : List Nat} {c : Claim} (hoffer : s.offer b p h n ks = some (k, c, t)) :
    Keeps Conn.claimed s (t.settled b c) := by
  obtain ⟨_, _, _, _, hclaim, _⟩ := (State.offer_eq_some _ _ _ _ _ _ _ _).1 hoffer
  exact (claim_keeps hclaim).comp (settled_quiet t b c) fun _ _ _ => Conn.claimed_quiet

end

/-! #### The units -/

/-- The units that a command of opcode range can reach, and no other. -/
structure Reach (s : State) (i : Instr) (t : State) : Prop where
  setting : SameSetting s t
  regs : t.regs = s.regs ∨ (∃ k, i = .connGetremote k) ∧ ∃ a, t.regs = { s.regs with argaddr := a }
  csa : t.csa = s.csa ∨ 0x20 ≤ i.opcode.toNat ∧ i.opcode.toNat ≤ 0x25
  slf : t.slf = s.slf ∨ 0x40 ≤ i.opcode.toNat ∧ i.opcode.toNat ≤ 0x42
  conns : t.conns = s.conns ∨ 0x50 ≤ i.opcode.toNat ∧ i.opcode.toNat ≤ 0x60

section
variable {s t : State} {i : Instr} {R : Conn → Conn → Prop}

theorem PoolEdit.reach (h : PoolEdit s t) (i : Instr) : Reach s i t := by
  obtain ⟨hsetting, -, hcsa, hslf, hconns⟩ := h.onlyPool
  exact ⟨hsetting, .inl h.regs, .inl hcsa, .inl hslf, .inl hconns⟩

theorem Keeps.reach (h : Keeps R s t) (hi : 0x50 ≤ i.opcode.toNat ∧ i.opcode.toNat ≤ 0x60) : Reach s i t :=
  ⟨h.setting, .inl h.regs, .inl h.csa, .inl h.slf, .inr hi⟩

/-- An update of a slot by a command on slots. -/
theorem reach_setConn {k : Nat} {f : Conn → Conn} (hi : 0x50 ≤ i.opcode.toNat ∧ i.opcode.toNat ≤ 0x60) :
    Reach s i (s.setConn k f) :=
  (keeps_setConn (R := fun _ _ => True) (fun _ => trivial) trivial).reach hi

/-- All but the pool, the data bytes and the channels is as before. -/
structure SlipKeeps (s t : State) : Prop where
  setting : SameSetting s t
  regs : t.regs = s.regs
  csa : t.csa = s.csa
  conns : t.conns = s.conns

theorem SlipKeeps.trans {u : State} (h : SlipKeeps s t) (h' : SlipKeeps t u) : SlipKeeps s u :=
  ⟨h.setting.trans h'.setting, h'.regs.trans h.regs, h'.csa.trans h.csa, h'.conns.trans h.conns⟩

theorem PoolEdit.slipKeeps (h : PoolEdit s t) : SlipKeeps s t := by
  obtain ⟨hsetting, -, hcsa, -, hconns⟩ := h.onlyPool
  exact ⟨hsetting, h.regs, hcsa, hconns⟩

theorem slipKeeps_setSlip (s : State) (c : Nat) (f : SlipChan → SlipChan) : SlipKeeps s (s.setSlip c f) :=
  ⟨⟨rfl, rfl, rfl, rfl⟩, rfl, rfl, rfl⟩

theorem slipKeeps_slipStore (s : State) (c : Byte) (b : Handle) (x : Byte) : SlipKeeps s (slipStore c b x s) := by
  unfold slipStore
  split
  · exact slipKeeps_setSlip s _ _
  · exact ⟨⟨rfl, rfl, rfl, rfl⟩, rfl, rfl, rfl⟩

theorem slipKeeps_rxByte (s : State) (c : Byte) (b : Handle) (x : Byte) : SlipKeeps s (s.rxByte c b x) := by
  unfold State.rxByte
  split
  · exact (slipKeeps_setSlip s _ _).trans (slipKeeps_slipStore _ c b _)
  · split
    · exact slipKeeps_setSlip s _ _
    · exact slipKeeps_slipStore s c b x

theorem slipKeeps_loadRx (s : State) (c : Nat) (b : Handle) : SlipKeeps s (s.loadRx c b) := ⟨⟨rfl, rfl, rfl, rfl⟩, rfl, rfl, rfl⟩

theorem slipKeeps_loadTx (s : State) (c : Nat) (b : Handle) (ph : TxPhase) : SlipKeeps s (s.loadTx c b ph) :=
  ⟨⟨rfl, rfl, rfl, rfl⟩, rfl, rfl, rfl⟩

theorem slipKeeps_rxQueue (s : State) (c : Byte) (b r : Handle) : SlipKeeps s (s.rxQueue c b r) :=
  (((PoolEdit.refl s).setBuf b _).trans (State.pushTail_poolEdit _ _ b)).slipKeeps.trans (slipKeeps_loadRx _ _ r)

theorem slipKeeps_txStep {c : Nat} (h : TxStep s c t) : SlipKeeps s t := by
  cases h with
  | advance f => exact slipKeeps_setSlip s c f
  | last =>
    rw [State.txEnd, State.setLoc_setSlip, State.release_setSlip]
    exact (s.setLoc_release_poolEdit _).slipKeeps.trans (slipKeeps_setSlip _ _ _)

theorem SlipKeeps.reach (h : SlipKeeps s t) (hi : 0x40 ≤ i.opcode.toNat ∧ i.opcode.toNat ≤ 0x42) : Reach s i t :=
  ⟨h.setting, .inl h.regs, .inl h.csa, .inr hi, .inl h.conns⟩

theorem resetSlot_keeps (s : State) (k : Nat) : Keeps (fun _ _ => True) s (s.resetSlot k) :=
  ((releaseStaged_quiet s k).trans (releaseRetx_quiet _ k)).comp
    (keeps_setConn (R := fun _ _ => True) (fun _ => trivial) trivial) fun _ _ _ _ _ => trivial

/-- An abandoned slot is closed, and the others stay. -/
theorem abandon_keeps (s : State) (k : Nat) :
    Keeps (fun x y => (y.state = x.state ∨ y.state = .closed) ∧ x.noClear y) s (s.abandon k) := by
  refine (releaseRetx_quiet s k).comp
    (keeps_setConn (R := fun x y => (y.state = x.state ∨ y.state = .closed) ∧ x.noClear y)
      (fun x => ⟨.inl rfl, x.noClear_refl⟩) ⟨.inr rfl, Conn.noClear_or _ rfl⟩) fun x y z h h' => ?_
  obtain ⟨⟨hstate, hev⟩, -⟩ := h
  exact ⟨hstate ▸ h'.1, Conn.noClear_trans hev h'.2⟩

theorem Quiet.calm (h : Quiet s t) : Keeps Conn.calm s t := h.mono fun _ _ h => h.1

theorem Keeps.calm_setWfifo (h : Keeps Conn.calm s t) (k : Nat) (f : Conn → List Byte) :
    Keeps Conn.calm s (t.setConn k fun x => { x with wfifo := f x }) :=
  h.comp (keeps_setConn (fun x => x.quiet_refl.1) ⟨rfl, Conn.noClear_or 0 (by simp)⟩) fun _ _ _ => Conn.calm_trans

theorem sendFifo_calm (s : State) (k : Nat) (d e : List Byte) :
    Keeps Conn.calm s (((s.fillWfifo k d).takeSpare.2.setConn k fun x => { x with wfifo := [] }).sendData k
      (s.fillWfifo k d).takeSpare.1 e) := by
  have hfilled : Keeps Conn.calm s (s.fillWfifo k d) := (Quiet.refl s).calm.calm_setWfifo k fun x => x.wfifo ++ d
  have htaken := hfilled.comp (s.fillWfifo k d).takeSpare_poolEdit.quiet.calm fun _ _ _ => Conn.calm_trans
  exact (htaken.calm_setWfifo k fun _ => []).comp (sendData_quiet _ k _ e).calm fun _ _ _ => Conn.calm_trans

theorem Effect.reach (he : Effect s i t) (hi : i ≠ .softReset) : Reach s i t := by
  cases he with
  | nothing => exact (PoolEdit.refl s).reach i
  | data => exact ⟨⟨rfl, rfl, rfl, rfl⟩, .inl rfl, .inl rfl, .inl rfl, .inl rfl⟩
  | takeSpare => exact s.takeSpare_poolEdit.reach _
  | release => exact (s.release_poolEdit _).reach _
  | queue => exact (s.takeSpare_poolEdit.trans (State.pushTail_poolEdit _ _ _)).reach _
  | ref => exact ((PoolEdit.refl s).setBuf _ _).reach _
  | unref => exact ((PoolEdit.refl s).setBuf _ _).reach _
  | push =>
    split
    · exact (s.pushHead_poolEdit _ _).reach _
    · exact (s.pushTail_poolEdit _ _).reach _
  | pop => exact (s.popHead_poolEdit _).reach _
  | remove _ _ _ _ hr => exact (remove_poolEdit hr).reach _
  | setlen => exact ((PoolEdit.refl s).setBuf _ _).reach _
  | setchan => exact ((PoolEdit.refl s).setBuf _ _).reach _
  | csa i a hi => exact ⟨⟨rfl, rfl, rfl, rfl⟩, .inl rfl, .inr hi, .inl rfl, .inl rfl⟩
  | buildEcho => exact ⟨by simp [SameSetting], .inl (by simp), .inl (by simp), .inl (by simp), .inl (by simp)⟩
  | rxNothing => exact (slipKeeps_setSlip s _ _).reach (by simp [Instr.opcode])
  | rxDrop => exact (((PoolEdit.refl s).setBuf _ _).slipKeeps.trans (slipKeeps_setSlip _ _ _)).reach (by simp [Instr.opcode])
  | rxQueue => exact (s.takeSpare_poolEdit.slipKeeps.trans (slipKeeps_rxQueue _ _ _ _)).reach (by simp [Instr.opcode])
  | rxByte => exact (slipKeeps_rxByte s _ _ _).reach (by simp [Instr.opcode])
  | rxFirst =>
    exact ((s.takeSpare_poolEdit.slipKeeps.trans (slipKeeps_loadRx _ _ _)).trans (slipKeeps_rxByte _ _ _ _)).reach
      (by simp [Instr.opcode])
  | tx _ _ ht => exact (slipKeeps_txStep ht).reach (by simp [Instr.opcode])
  | txFirst _ _ _ ht =>
    exact (((s.popHead_poolEdit _).slipKeeps.trans (slipKeeps_loadTx _ _ _ _)).trans (slipKeeps_txStep ht)).reach
      (by simp [Instr.opcode])
  | init =>
    have hset (u : State) (k : Nat) (f : Conn → Conn) : Keeps (fun _ _ => True) u (u.setConn k f) :=
      keeps_setConn (fun _ => trivial) trivial
    exact ((resetSlot_keeps s _).comp (hset _ _ _) fun _ _ _ _ _ => trivial).reach (by simp [Instr.opcode])
  | reg => exact reach_setConn (by simp [Instr.opcode])
  | reset => exact (resetSlot_keeps s _).reach (by simp [Instr.opcode])
  | setremote => exact reach_setConn (by simp [Instr.opcode])
  | openUdp => exact reach_setConn (by simp [Instr.opcode])
  | openTcp => exact reach_setConn (by simp [Instr.opcode])
  | connect => exact reach_setConn (by simp [Instr.opcode])
  | closeOpened => exact reach_setConn (by simp [Instr.opcode])
  | abandon => exact (abandon_keeps s _).reach (by simp [Instr.opcode])
  | listener => exact reach_setConn (by simp [Instr.opcode])
  | events => exact reach_setConn (by simp [Instr.opcode])
  | getremote =>
    exact ⟨⟨rfl, rfl, rfl, rfl⟩, .inr ⟨⟨_, rfl⟩, _, rfl⟩, .inl rfl, .inl rfl, .inl rfl⟩
  | retxDue => exact reach_setConn (by simp [Instr.opcode])
  | gaveup => exact reach_setConn (by simp [Instr.opcode])
  | read => exact (readLoop_quiet _ _ _ _ s).reach (by simp [Instr.opcode])
  | fill => exact reach_setConn (by simp [Instr.opcode])
  | send => exact (sendFifo_calm s _ _ _).reach (by simp [Instr.opcode])
  | update => exact (updateSlot_keeps s _).reach (by simp [Instr.opcode])
  | updateAll => exact (updateAll_keeps s _).reach (by simp [Instr.opcode])
  | accept _ _ _ hoffer => exact (accept_keeps hoffer).reach (by simp [Instr.opcode])
  | softReset => exact absurd rfl hi

/-! #### The transition table -/

/-- A row of R300, or a reset, for slot `k`. -/
inductive StateTable (k : Nat) (x y : Conn) : Instr → Prop
  | opens {a : Byte} (hk : a.toNat = k) (hx : x.state = .closed)
      (hy : y.state = if x.proto = .udp then ConnState.opened else ConnState.listen) : StateTable k x y (.connOpen a)
  | connect {a : Byte} {port : Half} (hk : a.toNat = k) (hproto : x.proto = .tcp) (hx : x.state = .closed)
      (hy : y.state = .synSent) : StateTable k x y (.connConnect a port)
  | close {a : Byte} (hk : a.toNat = k)
      (h : (x.state = .opened ∧ y.state = .closing) ∨
        ((x.state = .listen ∨ x.state = .synSent ∨ x.state = .synRcvd) ∧ y.state = .closed)) : StateTable k x y (.connClose a)
  | reset {i : Instr} {a : Byte} (hi : i = .connReset a ∨ ∃ port, i = .connInit a port) (hk : a.toNat = k)
      (hy : y.state = .closed) : StateTable k x y i
  | drained {a : Byte} (hk : a.toNat = k ∨ a = 0xFF) (hx : x.state = .closing) (hy : y.state = .closed)
      (hw : y.wfifo = []) : StateTable k x y (.connUpdate a)
  | claimed {b : Handle} (h : (x.state = .listen ∧ y.state = .synRcvd) ∨ (x.state = .synSent ∧ y.state = .opened) ∨
      (x.state = .synRcvd ∧ y.state = .opened)) : StateTable k x y (.connAccept b)
  | softReset (hy : y.state = .closed) : StateTable k x y .softReset

/-- The command clears the events of slot `k`. -/
def ClearsEvents (i : Instr) (k : Nat) : Prop :=
  i = .softReset ∨ ∃ a : Byte, a.toNat = k ∧ (i = .connEvents a ∨ i = .connReset a ∨ ∃ port, i = .connInit a port)

/-- How a command may change the record of slot `k`. -/
def MayMove (i : Instr) (k : Nat) (x y : Conn) : Prop :=
  (y.state = x.state ∨ StateTable k x y i) ∧ (x.noClear y ∨ ClearsEvents i k)

theorem Conn.calm.mayMove {x y : Conn} (h : x.calm y) (i : Instr) (k : Nat) : MayMove i k x y := ⟨.inl h.1, .inl h.2⟩

theorem mayMove_of_conns (h : t.conns = s.conns) (i : Instr) (k : Nat) : MayMove i k (s.conn k) (t.conn k) := by
  rw [State.conn_congr h]
  exact (s.conn k).quiet_refl.1.mayMove i k

/-- An update of one slot: the others stay. -/
theorem mayMove_setConn {a k : Nat} {f : Conn → Conn} (hf : a = k → MayMove i k (s.conn k) (f (s.conn k))) :
    MayMove i k (s.conn k) ((s.setConn a f).conn k) := by
  have hrefl : MayMove i k (s.conn k) (s.conn k) := (s.conn k).quiet_refl.1.mayMove i k
  by_cases hk : a = k
  · subst hk
    rcases Nat.lt_or_ge a s.conns.length with hlt | hge
    · rw [s.conn_setConn_same a f hlt]
      exact hf rfl
    · rwa [setConn_of_length_le hge]
  · rwa [s.conn_setConn_ne f (Ne.symm hk)]

/-- A slot command that leaves STATE and EVENTS. -/
theorem mayMove_setConn_keep {a k : Nat} {f : Conn → Conn}
    (hf : ∀ x, (f x).state = x.state ∧ (f x).events = x.events := by intro x; exact ⟨rfl, rfl⟩) :
    MayMove i k (s.conn k) ((s.setConn a f).conn k) := by
  refine mayMove_setConn fun _ => ⟨.inl (hf _).1, .inl (Conn.noClear_or 0 ?_)⟩
  rw [(hf _).2]
  simp

theorem state_setConn {k : Nat} {f : Conn → Conn} (hf : ∀ x, (f x).state = x.state) :
    ((s.setConn k f).conn k).state = (s.conn k).state := by
  rcases Nat.lt_or_ge k s.conns.length with hk | hk
  · rw [State.conn_setConn_same _ _ _ hk, hf]
  · rw [setConn_of_length_le hk]

theorem resetSlot_state (s : State) (k : Nat) : ((s.resetSlot k).conn k).state = .closed := by
  rcases Nat.lt_or_ge k s.conns.length with hk | hk
  · rw [State.resetSlot_conn hk]
    rfl
  · rw [conn_of_length_le ((s.resetSlot_slotEdit k).conns_length ▸ hk)]
    rfl

/-- A slot given back by CONN_RESET or CONN_INIT. -/
theorem mayMove_reset {a : Byte} {k : Nat} (hi : i = .connReset a ∨ ∃ port, i = .connInit a port)
    (he : SlotEdit s t a.toNat) (hclosed : (t.conn a.toNat).state = .closed) : MayMove i k (s.conn k) (t.conn k) := by
  by_cases hk : a.toNat = k
  · subst hk
    exact ⟨.inr (.reset hi rfl hclosed), .inr (.inr ⟨a, rfl, .inr hi⟩)⟩
  · rw [he.others k (Ne.symm hk)]
    exact (s.conn k).quiet_refl.1.mayMove i k

theorem mayMove_abandon {a : Byte} {k : Nat}
    (hstate : (s.conn a.toNat).state = .listen ∨ (s.conn a.toNat).state = .synSent ∨ (s.conn a.toNat).state = .synRcvd) :
    MayMove (.connClose a) k (s.conn k) ((s.abandon a.toNat).conn k) := by
  by_cases hk : a.toNat = k
  · subst hk
    obtain ⟨hclosed, hev⟩ := (abandon_keeps s a.toNat).conns a.toNat
    exact ⟨hclosed.imp_right fun h => .close rfl (.inr ⟨hstate, h⟩), .inl hev⟩
  · have hsame := ((s.releaseRetx_slotEdit a.toNat).setConn (fun x =>
      { x with synDue := false, synackDue := false, retxDue := false, ackDue := false, state := .closed,
               events := x.events ||| evClosed })).others k (Ne.symm hk)
    rw [State.abandon, hsame]
    exact (s.conn k).quiet_refl.1.mayMove _ k

/-- R271 moves the STATE of its own slot only. -/
theorem mayMove_updateSlot {a : Byte} {k : Nat} : MayMove (.connUpdate a) k (s.conn k) ((s.updateSlot a.toNat).conn k) := by
  by_cases hk : a.toNat = k
  · obtain ⟨hstate, hev, -⟩ := (updateSlot_keeps s a.toNat).conns k
    exact ⟨hstate.imp_right fun ⟨hx, hy, hw⟩ => .drained (.inl hk) hx hy hw, .inl hev⟩
  · have hsame : ((s.updateSends a.toNat).updateClosing a.toNat).conn k = (s.updateSends a.toNat).conn k := by
      unfold State.updateClosing
      dsimp only
      split
      · exact State.conn_setConn_ne _ _ (Ne.symm hk)
      · rfl
    rw [State.updateSlot_eq, hsame]
    exact ((updateSends_quiet s a.toNat).conns k).1.mayMove _ k

theorem softReset_conn (s : State) (k : Nat) : s.softReset.conn k = idleConn := State.resetOf_conn (g := s.build) k

theorem Effect.mayMove (he : Effect s i t) (k : Nat) : MayMove i k (s.conn k) (t.conn k) := by
  by_cases hi : i = .softReset
  · refine ⟨?_, .inr (.inl hi)⟩
    subst hi
    cases he with
    | softReset => exact .inr (.softReset (by rw [softReset_conn]; rfl))
    | nothing => exact .inl rfl
    | data => exact .inl rfl
    | csa => exact .inl rfl
  rcases (he.reach hi).conns with hconns | hop
  · exact mayMove_of_conns hconns i k
  cases he with
  | nothing => exact mayMove_of_conns rfl i k
  | data => exact mayMove_of_conns rfl i k
  | csa => exact mayMove_of_conns rfl i k
  | init =>
    refine mayMove_reset (.inr ⟨_, rfl⟩) ((s.resetSlot_slotEdit _).setConn _) ?_
    rw [state_setConn (by intro x; rfl)]
    exact resetSlot_state s _
  | reset => exact mayMove_reset (.inl rfl) (s.resetSlot_slotEdit _) (resetSlot_state s _)
  | openUdp _ hstate hproto =>
    exact mayMove_setConn fun e => ⟨.inr (.opens e (e ▸ hstate) (by rw [← e, if_pos hproto])), .inl (Conn.noClear_or _ rfl)⟩
  | openTcp _ hstate hproto =>
    exact mayMove_setConn fun e =>
      ⟨.inr (.opens e (e ▸ hstate) (by rw [← e, if_neg (by simp [hproto])])), .inl (Conn.noClear_or 0 (by simp))⟩
  | connect _ hproto hstate =>
    exact mayMove_setConn fun e => ⟨.inr (.connect e (e ▸ hproto) (e ▸ hstate) rfl), .inl (Conn.noClear_or 0 (by simp))⟩
  | closeOpened _ hstate =>
    exact mayMove_setConn fun e => ⟨.inr (.close e (.inl ⟨e ▸ hstate, rfl⟩)), .inl (Conn.noClear_or 0 (by simp))⟩
  | abandon _ hstate => exact mayMove_abandon hstate
  | events => exact mayMove_setConn fun e => ⟨.inl rfl, .inr (.inr ⟨_, e, .inl rfl⟩)⟩
  | gaveup => exact mayMove_setConn fun _ => ⟨.inl rfl, .inl (Conn.noClear_or _ rfl)⟩
  | reg => exact mayMove_setConn_keep
  | setremote => exact mayMove_setConn_keep
  | listener => exact mayMove_setConn_keep
  | retxDue => exact mayMove_setConn_keep
  | fill => exact mayMove_setConn_keep
  | getremote => exact mayMove_of_conns rfl _ k
  | read => exact ((readLoop_quiet _ _ _ _ s).conns k).1.mayMove _ k
  | send => exact ((sendFifo_calm s _ _ _).conns k).mayMove _ k
  | update => exact mayMove_updateSlot
  | updateAll =>
    obtain ⟨hstate, hev, -⟩ := (updateAll_keeps s _).conns k
    exact ⟨hstate.imp_right fun ⟨hx, hy, hw⟩ => .drained (.inr rfl) hx hy hw, .inl hev⟩
  | accept _ _ _ hoffer =>
    obtain ⟨hstate, hev⟩ := (accept_keeps hoffer).conns k
    exact ⟨hstate.imp_right .claimed, .inl hev⟩
  | softReset => exact absurd rfl hi
  | _ => simp [Instr.opcode] at hop

end

/-- Settles O28, by the units that each effect reaches. -/
theorem unitsKeepApart : Obligations.UnitsKeepApart := by
  intro i s t h hi
  have hclears {k : Nat} (hk : ∀ a : Byte, a.toNat = k → i ≠ .connEvents a ∧ i ≠ .connReset a ∧ ∀ port, i ≠ .connInit a port) :
      ¬ ClearsEvents i k := by
    rintro (rfl | ⟨a, ha, e | e | ⟨port, e⟩⟩)
    · exact hi rfl
    · exact (hk a ha).1 e
    · exact (hk a ha).2.1 e
    · exact (hk a ha).2.2 port e
  rcases exec_next h with ⟨e, -, rfl⟩ | ⟨-, u, r0, r1, hu, rfl⟩
  · exact ⟨⟨rfl, rfl, rfl, rfl⟩, ⟨rfl, rfl, rfl, rfl, rfl⟩, fun _ => rfl, fun _ => rfl, fun _ => rfl, fun _ => rfl,
      fun k _ => (s.conn k).noClear_refl⟩
  · obtain ⟨hsetting, hregs, hcsa, hslf, hconns⟩ := hu.reach hi
    refine ⟨hsetting, ?_, fun hnot => ?_, hcsa.resolve_right, hslf.resolve_right, hconns.resolve_right,
      fun k hk => ((hu.mayMove k).2.resolve_right (hclears hk))⟩
    · rcases hregs with e | ⟨-, a, e⟩
      · exact ⟨by simp [State.finish, e], by simp [State.finish, e], by simp [State.finish, e], by simp [State.finish, e],
          by simp [State.finish, e]⟩
      · exact ⟨by simp [State.finish, e], by simp [State.finish, e], by simp [State.finish, e], by simp [State.finish, e],
          by simp [State.finish, e]⟩
    · rcases hregs with e | ⟨⟨k, e⟩, -⟩
      · simp [State.finish, e]
      · exact absurd e (hnot k)

/-- Settles O29, by the rows of the table. -/
theorem stateChangesFollowTheTable : Obligations.StateChangesFollowTheTable := by
  intro i s t k h hne
  rcases exec_next h with ⟨e, -, rfl⟩ | ⟨-, u, r0, r1, hu, rfl⟩
  · exact absurd rfl hne
  · rw [State.finish_conn] at hne ⊢
    have hrow := (hu.mayMove k).1.resolve_left hne
    dsimp only
    generalize s.conn k = x at hrow ⊢
    generalize u.conn k = y at hrow ⊢
    cases hrow with
    | opens hk hx hy => exact .inl ⟨_, rfl, hk, hx, hy⟩
    | connect hk hproto hx hy => exact .inr (.inl ⟨_, _, rfl, hk, hproto, hx, hy⟩)
    | close hk hxy => exact .inr (.inr (.inl ⟨_, rfl, hk, hxy⟩))
    | reset hi hk hy => exact .inr (.inr (.inr (.inl ⟨_, hi, hk, hy⟩)))
    | drained hk hx hy hw => exact .inr (.inr (.inr (.inr (.inl ⟨_, rfl, hk, hx, hy, hw⟩))))
    | claimed hxy => exact .inr (.inr (.inr (.inr (.inr (.inl ⟨_, rfl, hxy⟩)))))
    | softReset hy => exact .inr (.inr (.inr (.inr (.inr (.inr ⟨rfl, hy⟩)))))

end Sys2Proof.Machine

/-! ### The Internet checksum in one's complement arithmetic (41_checksum.md R150 to R156)

Every value the algorithm computes is fixed by two facts about it: its residue modulo 65535, and whether it is 0.  `wordSum` is the
sum of the 16-bit words as a number without carries, and `Csum` of a sequence is a function of it. -/

namespace Sys2Proof.Machine

/-- `BitVec.toNat_zero` for the literal. -/
theorem toNat_literal_zero {n : Nat} : (0 : BitVec n).toNat = 0 := BitVec.toNat_zero

theorem addEc_toNat (a : Word) (v : Half) :
    (addEc a v).toNat = if a.toNat + v.toNat < 2 ^ 32 then a.toNat + v.toNat else a.toNat + v.toNat - 2 ^ 32 + 1 := by
  have ha := a.isLt
  have hv := v.isLt
  simp only [addEc]
  split <;> rw [BitVec.toNat_ofNat] <;> split <;> omega

theorem addEc_mod (a : Word) (v : Half) : (addEc a v).toNat % 65535 = (a.toNat + v.toNat) % 65535 := by
  rw [addEc_toNat]
  split <;> omega

theorem addEc_toNat_eq_zero (a : Word) (v : Half) : (addEc a v).toNat = 0 ↔ a.toNat + v.toNat = 0 := by
  rw [addEc_toNat]
  split <;> omega

theorem foldOnce_of_lt {n : Nat} (h : n < 65536) : foldOnce n = n := by simp [foldOnce, Nat.div_eq_of_lt h]

theorem foldOnce_of_ge {n : Nat} (h : 65536 ≤ n) : foldOnce n = n % 65536 + n / 65536 := if_neg (by omega)

theorem foldOnce_mod (n : Nat) : foldOnce n % 65535 = n % 65535 := by
  rcases Nat.lt_or_ge n 65536 with h | h
  · rw [foldOnce_of_lt h]
  · rw [foldOnce_of_ge h]; omega

theorem foldOnce_eq_zero (n : Nat) : foldOnce n = 0 ↔ n = 0 := by
  rcases Nat.lt_or_ge n 65536 with h | h
  · rw [foldOnce_of_lt h]
  · rw [foldOnce_of_ge h]; omega

theorem foldOnce_lt {n : Nat} (h : n ≤ 131070) : foldOnce n < 65536 := by
  rcases Nat.lt_or_ge n 65536 with h' | h'
  · rwa [foldOnce_of_lt h']
  · rw [foldOnce_of_ge h']; omega

theorem foldOnce_lt_of_word {n : Nat} (h : n < 2 ^ 32) : foldOnce n ≤ 131070 := by
  rcases Nat.lt_or_ge n 65536 with h' | h'
  · rw [foldOnce_of_lt h']; omega
  · rw [foldOnce_of_ge h']; omega

theorem fold_toNat (a : Word) : (fold a).toNat = foldOnce (foldOnce a.toNat) := by
  rw [fold, BitVec.toNat_ofNat, Nat.mod_eq_of_lt (foldOnce_lt (foldOnce_lt_of_word a.isLt))]

theorem fold_mod (a : Word) : (fold a).toNat % 65535 = a.toNat % 65535 := by
  rw [fold_toNat, foldOnce_mod, foldOnce_mod]

theorem fold_toNat_eq_zero (a : Word) : (fold a).toNat = 0 ↔ a.toNat = 0 := by
  rw [fold_toNat, foldOnce_eq_zero, foldOnce_eq_zero]

/-- The fold of a larger value is that of the sum of its halves: the loop of R153 needs no third turn. -/
theorem fold_of_ge {a : Word} (h : 65536 ≤ a.toNat) : fold a = fold (BitVec.ofNat 32 (a.toNat % 65536 + a.toNat / 65536)) := by
  have ha := foldOnce_lt_of_word a.isLt
  apply BitVec.eq_of_toNat_eq
  rw [fold_toNat, fold_toNat, ← foldOnce_of_ge h, BitVec.toNat_ofNat, Nat.mod_eq_of_lt (by omega),
    foldOnce_of_lt (foldOnce_lt ha)]

/-- Settles O32. -/
theorem endAroundCarryAndFold : Obligations.EndAroundCarryAndFold := fun a v =>
  ⟨addEc_toNat a v, addEc_mod a v, fun h => by rw [fold_toNat, foldOnce_of_lt h, foldOnce_of_lt h], fold_of_ge, fold_mod a, by
    rw [BitVec.toNat_eq, BitVec.toNat_eq]; exact fold_toNat_eq_zero a⟩

/-! ### Sums of words -/

/-- The sum of the big-endian words of a sequence as a number, a trailing odd byte zero-padded. -/
def wordSum : List Byte → Nat
  | [] => 0
  | [x] => x.toNat * 256
  | x :: y :: d => x.toNat * 256 + y.toNat + wordSum d

theorem be16_toNat (x y : Byte) : (be16 x y).toNat = x.toNat * 256 + y.toNat := toNat_append_byte x y

theorem sumFrom_mod (a : Word) (d : List Byte) : (sumFrom a d).toNat % 65535 = (a.toNat + wordSum d) % 65535 := by
  induction a, d using sumFrom.induct with
  | case1 a => rfl
  | case2 a x => rw [sumFrom, addEc_mod, be16_toNat, wordSum, toNat_literal_zero, Nat.add_zero]
  | case3 a x y d ih =>
    rw [sumFrom, ih, wordSum, ← Nat.add_assoc, Nat.add_mod, addEc_mod, be16_toNat, ← Nat.add_mod]

theorem sumFrom_toNat_eq_zero (a : Word) (d : List Byte) : (sumFrom a d).toNat = 0 ↔ a.toNat + wordSum d = 0 := by
  induction a, d using sumFrom.induct with
  | case1 a => rfl
  | case2 a x => rw [sumFrom, addEc_toNat_eq_zero, be16_toNat, wordSum, toNat_literal_zero, Nat.add_zero]
  | case3 a x y d ih =>
    have hec := addEc_toNat_eq_zero a (be16 x y)
    rw [be16_toNat] at hec
    rw [sumFrom, ih, wordSum]
    omega

theorem sum_mod (d : List Byte) : (sum d).toNat % 65535 = wordSum d % 65535 := by
  rw [sum, sumFrom_mod, toNat_literal_zero, Nat.zero_add]

theorem sum_toNat_eq_zero (d : List Byte) : (sum d).toNat = 0 ↔ wordSum d = 0 := by
  rw [sum, sumFrom_toNat_eq_zero, toNat_literal_zero, Nat.zero_add]

theorem fold_sum_mod (d : List Byte) : (fold (sum d)).toNat % 65535 = wordSum d % 65535 := by rw [fold_mod, sum_mod]

theorem fold_sum_eq_zero (d : List Byte) : (fold (sum d)).toNat = 0 ↔ wordSum d = 0 := by
  rw [fold_toNat_eq_zero, sum_toNat_eq_zero]

/-- Sequences whose words have the same sum have the same folded sum. -/
theorem fold_sum_congr {d e : List Byte} (h : wordSum d = wordSum e) : fold (sum d) = fold (sum e) := by
  have hd := fold_sum_mod d
  have he := fold_sum_mod e
  have hd0 := fold_sum_eq_zero d
  have he0 := fold_sum_eq_zero e
  have hdlt := (fold (sum d)).isLt
  have helt := (fold (sum e)).isLt
  rw [h] at hd hd0
  exact BitVec.eq_of_toNat_eq (by omega)

theorem wordSum_append {x : List Byte} (h : x.length % 2 = 0) (y : List Byte) : wordSum (x ++ y) = wordSum x + wordSum y := by
  induction x using wordSum.induct with
  | case1 => simp [wordSum]
  | case2 a => simp at h
  | case3 a b x ih =>
    have ih := ih (by simp only [List.length_cons] at h; omega)
    simp only [List.cons_append, wordSum, ih]
    omega

theorem wordSum_bytes16 (v : Half) : wordSum (bytes16 v) = v.toNat := by
  have h := be16_toNat (v.extractLsb' 8 8) (v.extractLsb' 0 8)
  rw [show be16 (v.extractLsb' 8 8) (v.extractLsb' 0 8) = v from be16At_bytes16 v] at h
  rw [bytes16, wordSum, wordSum, h, Nat.add_zero]

/-- Filling in a field of two bytes at an even offset adds its value to the sum of the words. -/
theorem wordSum_patch {d : List Byte} {f : Nat} (hf : f % 2 = 0) (hfit : f + 2 ≤ d.length) (v : Half) :
    wordSum (patch d f (bytes16 v)) = wordSum (patch d f [0, 0]) + v.toNat := by
  have hbefore : (d.take f).length % 2 = 0 := by rw [List.length_take]; omega
  have hzero : wordSum [0, 0] = 0 := rfl
  have hpatch (w : List Byte) (hw : w.length = 2) : wordSum (patch d f w) = wordSum (d.take f) + (wordSum w + wordSum (d.drop (f + 2))) := by
    rw [patch, hw, List.append_assoc, wordSum_append hbefore, wordSum_append (by omega)]
  rw [hpatch _ rfl, hpatch _ rfl, wordSum_bytes16, hzero]
  omega

theorem csum_toNat (d : List Byte) : (csum d).toNat = 65535 - (fold (sum d)).toNat := by
  rw [csum, BitVec.toNat_not]

theorem not_half_eq_zero {f : Half} : ~~~f = 0 ↔ f.toNat = 65535 := by
  have := f.isLt
  rw [BitVec.toNat_eq, BitVec.toNat_not]
  simp only [BitVec.toNat_zero, BitVec.ofNat_eq_ofNat]
  omega

theorem fold_sum_filled {d : List Byte} {f : Nat} (hf : f % 2 = 0) (hfit : f + 2 ≤ d.length) :
    (fold (sum (patch d f (bytes16 (csum (patch d f [0, 0])))))).toNat = 65535 := by
  have hsum := wordSum_patch hf hfit (csum (patch d f [0, 0]))
  have hcsum := csum_toNat (patch d f [0, 0])
  have hmod := fold_sum_mod (patch d f [0, 0])
  have hzero := fold_sum_eq_zero (patch d f [0, 0])
  have hlt := (fold (sum (patch d f [0, 0]))).isLt
  generalize patch d f (bytes16 (csum (patch d f [0, 0]))) = filled at hsum ⊢
  have hmod' := fold_sum_mod filled
  have hzero' := fold_sum_eq_zero filled
  have hlt' := (fold (sum filled)).isLt
  omega

theorem wordSum_flatMap (ws : List (Byte × Byte)) :
    wordSum (ws.flatMap fun p => [p.1, p.2]) = (ws.map fun p => p.1.toNat * 256 + p.2.toNat).sum := by
  induction ws with
  | nil => rfl
  | cons p ws ih => simpa [wordSum] using ih

theorem addEc_zero (a : Word) : addEc a 0 = a := by
  have ha := a.isLt
  apply BitVec.eq_of_toNat_eq
  rw [addEc_toNat]
  simp [ha]

theorem sumFrom_append_zero (a : Word) (d : List Byte) :
    sumFrom a (d ++ [0, 0]) = sumFrom a d ∧ sumFrom a (d ++ [0]) = sumFrom a d := by
  have hzero (a : Word) : addEc a (be16 0 0) = a := addEc_zero a
  induction a, d using sumFrom.induct with
  | case1 a => exact ⟨hzero a, hzero a⟩
  | case2 a x => exact ⟨hzero _, rfl⟩
  | case3 a x y d ih => simpa [sumFrom] using ih

/-- Settles O33: modulo 65535 the field of the checksum cancels the sum of the other words, and an order of the words or zeros after
them do not change that sum. -/
theorem checksumProperties : Obligations.ChecksumProperties := by
  refine ⟨fun d f _ hf hfit => ?_, fun ws ws' hperm => ?_, sumFrom_append_zero 0⟩
  · have h := fold_sum_filled hf hfit
    exact ⟨BitVec.eq_of_toNat_eq h, not_half_eq_zero.2 h⟩
  · refine fold_sum_congr ?_
    rw [wordSum_flatMap, wordSum_flatMap, (hperm.map _).sum_eq]

/-! ### Verification (R155, R156) -/

/-- With CSV = 1 the stored field passes when it and the sum of the other words cancel. -/
theorem verify_csv_iff {d : List Byte} {f : Nat} {udp : Bool} :
    verify true d f udp = true ↔
      be16At d f = csum (patch d f [0, 0]) ∨ csum (patch d f [0, 0]) = 0 ∧ be16At d f = 0xFFFF := by
  have hstored := (be16At d f).isLt
  have hcsum := csum_toNat (patch d f [0, 0])
  have hmod := fold_mod (sum (patch d f [0, 0]))
  have hzero := fold_toNat_eq_zero (sum (patch d f [0, 0]))
  have hlt := (fold (sum (patch d f [0, 0]))).isLt
  have hmod' := fold_mod (addEc (sum (patch d f [0, 0])) (be16At d f))
  have hzero' := fold_toNat_eq_zero (addEc (sum (patch d f [0, 0])) (be16At d f))
  have hec := addEc_mod (sum (patch d f [0, 0])) (be16At d f)
  have hec0 := addEc_toNat_eq_zero (sum (patch d f [0, 0])) (be16At d f)
  have hlt' := (fold (addEc (sum (patch d f [0, 0])) (be16At d f))).isLt
  have hverify : verify true d f udp = true ↔ (fold (addEc (sum (patch d f [0, 0])) (be16At d f))).toNat = 65535 := by
    rw [← not_half_eq_zero]; simp [verify]
  have hones : (0xFFFF : Half).toNat = 65535 := rfl
  have h0 : (0 : Half).toNat = 0 := rfl
  rw [hverify, BitVec.toNat_eq, BitVec.toNat_eq (y := (0 : Half)), BitVec.toNat_eq (y := (0xFFFF : Half)), hones, h0]
  omega

/-- Settles O34: with CSV = 0 by definition, with CSV = 1 by the arithmetic modulo 65535. -/
theorem verifyAcceptsByTheTable : Obligations.VerifyAcceptsByTheTable := fun _ _ _ =>
  ⟨beq_iff_eq.trans eq_comm, beq_iff_eq.trans eq_comm, verify_csv_iff⟩

/-- A field that is the computed checksum is accepted in both modes. -/
theorem verify_of_eq {d : List Byte} {f : Nat} (csv : Bool) (h : be16At d f = csum (patch d f [0, 0])) :
    verify csv d f false = true := by
  obtain ⟨hplain, -, hcsv⟩ := verifyAcceptsByTheTable d f false
  cases csv
  · exact hplain.2 h
  · exact hcsv.2 (.inl h)

/-- So is the transmit form of a UDP checksum. -/
theorem verify_of_eq_udpForm {d : List Byte} {f : Nat} (csv : Bool) (h : be16At d f = udpForm (csum (patch d f [0, 0]))) :
    verify csv d f true = true := by
  obtain ⟨-, hudp, hcsv⟩ := verifyAcceptsByTheTable d f true
  cases csv
  · exact hudp.2 h
  · refine hcsv.2 ?_
    rw [udpForm] at h
    split at h
    next hzero => exact .inr ⟨hzero, h⟩
    next => exact .inl h

/-- An accepted field cancels the sum of the other words modulo 65535, in both modes. -/
theorem verify_mod {csv : Bool} {d : List Byte} {f : Nat} {udp : Bool} (h : verify csv d f udp = true) :
    (wordSum (patch d f [0, 0]) + (be16At d f).toNat) % 65535 = 0 := by
  obtain ⟨hplain, hudp, hcsv⟩ := verifyAcceptsByTheTable d f udp
  have hstored : be16At d f = csum (patch d f [0, 0]) ∨ csum (patch d f [0, 0]) = 0 ∧ be16At d f = 0xFFFF := by
    cases csv with
    | true => exact hcsv.1 h
    | false =>
      cases udp with
      | false => exact .inl (hplain.1 h)
      | true =>
        have h := hudp.1 h
        split at h
        next hzero => exact .inr ⟨hzero, h⟩
        next => exact .inl h
  have hcsum := csum_toNat (patch d f [0, 0])
  have hmod := fold_sum_mod (patch d f [0, 0])
  have hlt := (fold (sum (patch d f [0, 0]))).isLt
  have hones : (0xFFFF : Half).toNat = 65535 := rfl
  rcases hstored with h | ⟨h, h'⟩
  · rw [h]; omega
  · rw [h', hones]
    rw [h, toNat_literal_zero] at hcsum
    omega

/-! ### Byte-stream accumulation (R151, R165) -/

theorem addBytes_append (a : Csa) (d e : List Byte) : addBytes a (d ++ e) = addBytes (addBytes a d) e := List.foldl_append

theorem foldl_addBytes (a : Csa) (pieces : List (List Byte)) : pieces.foldl addBytes a = addBytes a pieces.flatten := by
  induction pieces generalizing a with
  | nil => rfl
  | cons d pieces ih => rw [List.foldl_cons, ih, List.flatten_cons, addBytes_append]

/-- An accumulator with no byte waiting adds whole words. -/
theorem padded_addBytes (a : Word) (d : List Byte) : padded (addBytes { acc := a, odd := false, pend := 0 } d) = sumFrom a d := by
  induction a, d using sumFrom.induct with
  | case1 a => rfl
  | case2 a x => rfl
  | case3 a x y d ih => exact ih

/-- Settles O31. -/
theorem piecesSumAsOneSequence : Obligations.PiecesSumAsOneSequence :=
  ⟨foldl_addBytes, padded_addBytes 0, fun s d h => answers_done ⟨by rw [h, padded_addBytes]; rfl, rfl⟩⟩

end Sys2Proof.Machine

/-! ### Sniffing in two parts (42_header.md R180 to R184)

A packet passes the checks of its IP header, and then its message is judged by the protocol.  The first part reads the header and the
length only. -/

namespace Sys2Proof.Machine

section
variable {m : SniffMode} {d e : List Byte} {h i k n : Nat} {code : HeaderSniff} {p q x : Byte}

/-- The IP header of `d` passes every check of steps 1 to 4 of R180; the message is at `h` and of protocol `p`. -/
def IpHeaderOk (m : SniffMode) (d : List Byte) (h : Nat) (p : Byte) : Prop :=
  match m.ipv with
  | .v4 =>
    (byteAt d 0).toNat / 16 = 4 ∧ h = (byteAt d 0).toNat % 16 * 4 ∧ 20 ≤ h ∧ h ≤ d.length ∧ (be16At d 2).toNat = d.length ∧
      verify m.csv (d.take h) 10 false = true ∧ p = byteAt d 9
  | .v6 => (byteAt d 0).toNat / 16 = 6 ∧ h = 40 ∧ 40 ≤ d.length ∧ (be16At d 4).toNat + 40 = d.length ∧ p = byteAt d 6

theorem ipHeaderOk_v4 (hv : m.ipv = .v4) : IpHeaderOk m d h p ↔
    (byteAt d 0).toNat / 16 = 4 ∧ h = (byteAt d 0).toNat % 16 * 4 ∧ 20 ≤ h ∧ h ≤ d.length ∧ (be16At d 2).toNat = d.length ∧
      verify m.csv (d.take h) 10 false = true ∧ p = byteAt d 9 := by
  rw [IpHeaderOk, hv]

theorem ipHeaderOk_v6 (hv : m.ipv = .v6) : IpHeaderOk m d h p ↔
    (byteAt d 0).toNat / 16 = 6 ∧ h = 40 ∧ 40 ≤ d.length ∧ (be16At d 4).toNat + 40 = d.length ∧ p = byteAt d 6 := by
  rw [IpHeaderOk, hv]

theorem sniffBytes_v4 (hv : m.ipv = .v4) (hd : d.length ≠ 0) : sniffBytes m d = sniffV4 m d := by
  rw [sniffBytes, if_neg hd, hv]

theorem sniffBytes_v6 (hv : m.ipv = .v6) (hd : d.length ≠ 0) : sniffBytes m d = sniffV6 m d := by
  rw [sniffBytes, if_neg hd, hv]

theorem sniffBytes_of_header (hok : IpHeaderOk m d h p) : sniffBytes m d = sniffProto m d h p := by
  cases hv : m.ipv with
  | v4 =>
    obtain ⟨hversion, rfl, hmin, hfit, htotal, hverify, rfl⟩ := (ipHeaderOk_v4 hv).1 hok
    rw [sniffBytes_v4 hv (by omega)]
    simp [sniffV4, hversion, hverify, htotal, show ¬ d.length < 20 by omega, show ¬ (byteAt d 0).toNat % 16 < 5 by omega,
      show ¬ d.length < (byteAt d 0).toNat % 16 * 4 by omega]
  | v6 =>
    obtain ⟨hversion, rfl, hfit, htotal, rfl⟩ := (ipHeaderOk_v6 hv).1 hok
    rw [sniffBytes_v6 hv (by omega)]
    simp [sniffV6, hversion, htotal, show ¬ d.length < 40 by omega]

/-- A packet that is accepted passed the checks of its header. -/
theorem header_of_packet (hs : sniffBytes m d = .packet code p h n) :
    ∃ q, IpHeaderOk m d h q ∧ sniffProto m d h q = .packet code p h n := by
  have hd : d.length ≠ 0 := by have := (sniffBytes_packet hs).2.2; omega
  cases hv : m.ipv with
  | v4 =>
    rw [sniffBytes_v4 hv hd, sniffV4] at hs
    split_ifs at hs with hsix hfour hshort hihl hfit htotal hverify
    obtain ⟨rfl, -, -⟩ := sniffProto_packet hs
    refine ⟨_, (ipHeaderOk_v4 hv).2 ⟨not_not.1 hfour, rfl, by omega, by omega, not_not.1 htotal, ?_, rfl⟩, hs⟩
    exact Bool.not_eq_false _ ▸ hverify
  | v6 =>
    rw [sniffBytes_v6 hv hd, sniffV6] at hs
    split_ifs at hs with hfour hsix hshort htotal
    obtain ⟨rfl, -, -⟩ := sniffProto_packet hs
    exact ⟨_, (ipHeaderOk_v6 hv).2 ⟨not_not.1 hsix, rfl, by omega, not_not.1 htotal, rfl⟩, hs⟩

theorem IpHeaderOk.header_le (hok : IpHeaderOk m d h p) : dstOff m.ipv + alenOf m.ipv ≤ h := by
  cases hv : m.ipv with
  | v4 => exact ((ipHeaderOk_v4 hv).1 hok).2.2.1
  | v6 => exact ((ipHeaderOk_v6 hv).1 hok).2.1.ge

/-! #### Sequences with the same header -/

theorem byteAt_take (hi : i < h) : byteAt (d.take h) i = byteAt d i := by
  rw [byteAt_eq_getElem?, byteAt_eq_getElem?, List.getElem?_take_of_lt hi]

theorem byteAt_congr (ht : e.take h = d.take h) (hi : i < h) : byteAt e i = byteAt d i := by
  rw [← byteAt_take hi, ht, byteAt_take hi]

theorem be16At_congr (ht : e.take h = d.take h) (hi : i + 1 < h) : be16At e i = be16At d i := by
  rw [be16At, be16At, byteAt_congr ht (by omega), byteAt_congr ht hi]

theorem slice_take (hi : i + n ≤ h) : slice (d.take h) i n = slice d i n := by
  refine List.ext_getElem? fun j => ?_
  rw [getElem?_slice, getElem?_slice, List.getElem?_take]
  grind

theorem slice_congr (ht : e.take h = d.take h) (hi : i + n ≤ h) : slice e i n = slice d i n := by
  rw [← slice_take hi, ht, slice_take hi]

theorem IpHeaderOk.congr (hok : IpHeaderOk m d h p) (hlen : e.length = d.length) (ht : e.take h = d.take h) :
    IpHeaderOk m e h p := by
  cases hv : m.ipv with
  | v4 =>
    obtain ⟨hversion, hihl, hmin, hfit, htotal, hverify, hproto⟩ := (ipHeaderOk_v4 hv).1 hok
    rw [ipHeaderOk_v4 hv, byteAt_congr ht (by omega), byteAt_congr ht (by omega), be16At_congr ht (by omega), ht, hlen]
    exact ⟨hversion, hihl, hmin, hfit, htotal, hverify, hproto⟩
  | v6 =>
    obtain ⟨hversion, hh, hfit, htotal, hproto⟩ := (ipHeaderOk_v6 hv).1 hok
    rw [ipHeaderOk_v6 hv, byteAt_congr ht (by omega), byteAt_congr ht (by omega), be16At_congr ht (by omega), hlen]
    exact ⟨hversion, hh, hfit, htotal, hproto⟩

/-- The pseudo-header reads the addresses and the length. -/
theorem packetPh_congr {ipv : IPVersion} (hlen : e.length = d.length) (ht : e.take h = d.take h)
    (hend : dstOff ipv + alenOf ipv ≤ h) : packetPh ipv e h p = packetPh ipv d h p := by
  have horder := addresses_order ipv
  rw [packetPh, packetPh, srcOf, srcOf, dstOf, dstOf, slice_congr ht hend, slice_congr ht (by omega), hlen]

/-! ### A packet one byte shorter (R189 item 2) -/

theorem byteAt_dropLast (hi : i + 1 < d.length) : byteAt d.dropLast i = byteAt d i := by
  rw [List.dropLast_eq_take, byteAt_take (by omega)]

theorem be16At_dropLast (hi : i + 2 < d.length) : be16At d.dropLast i = be16At d i := by
  rw [be16At, be16At, byteAt_dropLast (by omega), byteAt_dropLast (by omega)]

/-- The length that the header states is one more than the length found: a frame error of the IP version. -/
theorem sniffBytes_dropLast (hok : IpHeaderOk m d h p) (hlong : h + 1 < d.length) :
    sniffBytes m d.dropLast = .bad (match m.ipv with | .v4 => .ipv4FrameError | .v6 => .ipv6FrameError) := by
  have hlen : d.dropLast.length = d.length - 1 := List.length_dropLast
  cases hv : m.ipv with
  | v4 =>
    obtain ⟨hversion, rfl, hmin, hfit, htotal, -, -⟩ := (ipHeaderOk_v4 hv).1 hok
    rw [sniffBytes_v4 hv (by omega)]
    simp [sniffV4, byteAt_dropLast (d := d) (i := 0) (by omega), be16At_dropLast (d := d) (i := 2) (by omega), hversion, htotal,
      show ¬ d.length - 1 < 20 by omega, show ¬ (byteAt d 0).toNat % 16 < 5 by omega,
      show ¬ d.length - 1 < (byteAt d 0).toNat % 16 * 4 by omega, show d.length ≠ d.length - 1 by omega]
  | v6 =>
    obtain ⟨hversion, rfl, hfit, htotal, -⟩ := (ipHeaderOk_v6 hv).1 hok
    rw [sniffBytes_v6 hv (by omega)]
    simp [sniffV6, byteAt_dropLast (d := d) (i := 0) (by omega), be16At_dropLast (d := d) (i := 4) (by omega), hversion, htotal,
      show ¬ d.length - 1 < 40 by omega, show d.length ≠ d.length - 1 by omega]

/-- Settles O35. -/
theorem truncationIsNeverAccepted : Obligations.TruncationIsNeverAccepted := by
  intro m d c p h n hs
  obtain ⟨q, hok, -⟩ := header_of_packet hs
  obtain ⟨-, -, hlong⟩ := sniffBytes_packet hs
  refine ⟨_, sniffBytes_dropLast hok (by omega), ?_⟩
  cases m.ipv <;> simp

/-! ### A packet with one byte changed (R189 item 3) -/

theorem byteAt_set_ne {j : Nat} (hj : j ≠ i) : byteAt (d.set i x) j = byteAt d j := by
  rw [byteAt_eq_getElem?, byteAt_eq_getElem?, List.getElem?_set_ne hj.symm]

theorem be16At_set_of_lt {j : Nat} (hj : j + 1 < i) : be16At (d.set i x) j = be16At d j := by
  rw [be16At, be16At, byteAt_set_ne (by omega), byteAt_set_ne (by omega)]

/-- What changing byte `i` changes in the sum of the words: a high byte counts 256 times. -/
theorem wordSum_set (hi : i < d.length) :
    wordSum (d.set i x) + (if i % 2 = 0 then 256 else 1) * (byteAt d i).toNat =
      wordSum d + (if i % 2 = 0 then 256 else 1) * x.toNat := by
  induction d using wordSum.induct generalizing i with
  | case1 => simp at hi
  | case2 y =>
    obtain rfl : i = 0 := by simpa using hi
    simp [wordSum, byteAt]; omega
  | case3 y z d ih =>
    match i with
    | 0 => simp [wordSum, byteAt]; omega
    | 1 => simp [wordSum, byteAt]; omega
    | i + 2 =>
      have ih := ih (i := i) (by simpa using hi)
      have hbyte : byteAt (y :: z :: d) (i + 2) = byteAt d i := rfl
      rw [hbyte, show (i + 2) % 2 = i % 2 by omega]
      simp only [List.set_cons_succ, wordSum]
      omega

theorem patch_set {f : Nat} {v : List Byte} (hf : f + v.length ≤ i) (hi : i < d.length) :
    patch (d.set i x) f v = (patch d f v).set i x := by
  refine List.ext_getElem? fun j => ?_
  rw [getElem?_patch (by rw [List.length_set]; omega), List.getElem?_set, List.getElem?_set, getElem?_patch (by omega),
    length_patch (by omega)]
  grind

/-- A checksum that was accepted is not accepted after one byte outside its field changed: the sum of the words changed by less
than 65535, or by 256 times a number below 256. -/
theorem verify_set {csv udp : Bool} {f : Nat} (hok : verify csv d f udp = true) (hf : f + 2 ≤ i) (hi : i < d.length)
    (hx : x ≠ byteAt d i) : verify csv (d.set i x) f udp = false := by
  by_contra hverify
  have hold := verify_mod hok
  have hnew := verify_mod (Bool.of_not_eq_false hverify)
  rw [patch_set (v := [0, 0]) hf hi, be16At_set_of_lt (by omega)] at hnew
  have hsum := wordSum_set (d := patch d f [0, 0]) (x := x) (i := i) (by rwa [length_patch (by exact hf.trans hi.le)])
  rw [byteAt_patch_of_disjoint (by exact hf.trans hi.le) (.inr hf)] at hsum
  have hne : x.toNat ≠ (byteAt d i).toNat := fun h => hx (BitVec.eq_of_toNat_eq h)
  have hlt := x.isLt
  have hlt' := (byteAt d i).isLt
  split at hsum <;> omega

/-- The checksum of a message with a pseudo-header, after one byte of the message changed. -/
theorem verify_message_set {csv udp : Bool} {ph : List Byte} {f : Nat} (hok : verify csv (ph ++ d.drop h) (ph.length + f) udp = true)
    (hf : h + f + 2 ≤ i) (hi : i < d.length) (hx : x ≠ byteAt d i) :
    verify csv (ph ++ (d.set i x).drop h) (ph.length + f) udp = false := by
  have hbyte : byteAt (ph ++ d.drop h) (ph.length + (i - h)) = byteAt d i := by
    rw [byteAt_eq_getElem?, byteAt_eq_getElem?, List.getElem?_append_right (by omega), List.getElem?_drop]
    congr 2; omega
  have hset : ph ++ (d.set i x).drop h = (ph ++ d.drop h).set (ph.length + (i - h)) x := by
    rw [List.set_append_right _ _ (by omega), List.drop_set, if_neg (by omega), Nat.add_sub_cancel_left]
  rw [hset]
  exact verify_set hok (by omega) (by rw [List.length_append, List.length_drop]; omega) (by rwa [hbyte])

/-- The protocol that Sniff reports is the one the header names. -/
theorem sniffProto_proto (hs : sniffProto m d h q = .packet code p k n) : q = p := by
  rw [sniffProto] at hs
  split_ifs at hs with htcp hudp hicmp
  · rw [sniffTcp] at hs
    split_ifs at hs
    exact htcp.trans (Sniffed.packet.inj hs).2.1
  · rw [sniffUdp] at hs
    split_ifs at hs
    · exact hudp.trans (Sniffed.packet.inj hs).2.1
    · exact hudp.trans (Sniffed.packet.inj hs).2.1
  · rw [sniffIcmp] at hs
    split_ifs at hs
    · exact hicmp.trans (Sniffed.packet.inj hs).2.1
    · exact hicmp.trans (Sniffed.packet.inj hs).2.1

/-- Bytes of the message do not matter to the checks of the header. -/
theorem sniffBytes_set (hs : sniffBytes m d = .packet code p h n) (hi : h ≤ i) :
    sniffBytes m (d.set i x) = sniffProto m (d.set i x) h p ∧ sniffProto m d h p = .packet code p h n ∧
      ∀ q, packetPh m.ipv (d.set i x) h q = packetPh m.ipv d h q := by
  obtain ⟨q, hok, hproto⟩ := header_of_packet hs
  obtain rfl := sniffProto_proto hproto
  have htake : (d.set i x).take h = d.take h := List.take_set_of_le hi
  exact ⟨sniffBytes_of_header (hok.congr List.length_set htake), hproto,
    fun _ => packetPh_congr List.length_set htake hok.header_le⟩

theorem sniffTcp_set (hs : sniffTcp m d h = .packet code p k n) (hph : packetPh m.ipv (d.set i x) h protoTcp = packetPh m.ipv d h protoTcp)
    (hpay : h + (byteAt d (h + 12)).toNat / 16 * 4 ≤ i) (hi : i < d.length) (hx : x ≠ byteAt d i) :
    sniffTcp m (d.set i x) h = .bad .protocolChecksum := by
  simp only [sniffTcp, byteAt_drop] at hs ⊢
  split_ifs at hs with hshort hoff hfit hverify
  rw [hph, List.length_set, byteAt_set_ne (by omega), if_neg hshort, if_neg hoff, if_neg hfit,
    if_pos (verify_message_set (Bool.of_not_eq_false hverify) (by omega) hi hx)]

theorem sniffUdp_set (hs : sniffUdp m d h = .packet code p k n) (hph : packetPh m.ipv (d.set i x) h protoUdp = packetPh m.ipv d h protoUdp)
    (hsum : be16At d (h + 6) ≠ 0) (hpay : h + 8 ≤ i) (hi : i < d.length) (hx : x ≠ byteAt d i) :
    sniffUdp m (d.set i x) h = .bad .protocolChecksum := by
  simp only [sniffUdp, be16At_drop, hsum, and_false, if_false] at hs ⊢
  split_ifs at hs with hshort hlen hverify
  rw [hph, List.length_set, be16At_set_of_lt (by omega), be16At_set_of_lt (by omega), if_neg hshort, if_neg hlen,
    if_neg (fun h => hsum h.2), if_pos (verify_message_set (Bool.of_not_eq_false hverify) (by omega) hi hx)]

/-- Settles O36. -/
theorem corruptionIsNoticed : Obligations.CorruptionIsNoticed := by
  intro m d h n i x hi hx
  refine ⟨fun hs hpay => ?_, fun hs hsum hpay => ?_⟩
  · obtain ⟨hsniff, hproto, hph⟩ := sniffBytes_set (i := i) (x := x) hs (by omega)
    rw [hsniff]
    exact sniffTcp_set hproto (hph _) hpay hi hx
  · obtain ⟨hsniff, hproto, hph⟩ := sniffBytes_set (i := i) (x := x) hs (by omega)
    rw [hsniff]
    exact sniffUdp_set hproto (hph _) hsum hpay hi hx

end

end Sys2Proof.Machine

/-! ### The checksum of a message under its IP header (42_header.md R178, R203)

`filledL4` is what the writers of segments and datagrams make of a packet whose checksums are 0, as `filledIcmp` is for ICMP. -/

namespace Sys2Proof.Machine

/-- The checksum of the message of protocol `p` at `h` of packet `d` with its pseudo-header, over its own field at `f` as 0. -/
def l4Csum (ipv : IPVersion) (d : List Byte) (h : Nat) (p : Byte) (f : Nat) : Half :=
  csum (packetPh ipv d h p ++ patch (d.drop h) f [0, 0])

/-- What protocol `p` stores for a computed checksum: UDP its transmit form (R204). -/
def l4Field (p : Byte) (c : Half) : Half := if p = protoUdp then udpForm c else c

/-- Packet `d` with its header checksum and the checksum of its message at `h` written. -/
def filledL4 (ipv : IPVersion) (d : List Byte) (h : Nat) (p : Byte) (f : Nat) : List Byte :=
  patch (filledHeader ipv d h) (h + f) (bytes16 (l4Field p (l4Csum ipv d h p f)))

section
variable {ipv : IPVersion} {d e v ph : List Byte} {h i f : Nat} {p : Byte} {csv udp : Bool} {m : SniffMode}

/-! #### What a checksum does not cover -/

theorem packetPh_patch (hv : i + v.length ≤ d.length) (hout : i + v.length ≤ srcOff ipv ∨ dstOff ipv + alenOf ipv ≤ i) :
    packetPh ipv (patch d i v) h p = packetPh ipv d h p := by
  have hord := addresses_order ipv
  have hsrc : srcOf ipv (patch d i v) = srcOf ipv d := slice_patch_of_disjoint hv (by omega)
  have hdst : dstOf ipv (patch d i v) = dstOf ipv d := slice_patch_of_disjoint hv (by omega)
  rw [packetPh, packetPh, hsrc, hdst, length_patch hv]

theorem l4Csum_patch_field (hend : dstOff ipv + alenOf ipv ≤ h) (hd : h + f + 2 ≤ d.length) (hv : v.length = 2) :
    l4Csum ipv (patch d (h + f) v) h p f = l4Csum ipv d h p f := by
  rw [l4Csum, l4Csum, packetPh_patch (by omega) (.inr (by omega)), drop_patch (by omega),
    patch_patch_same (w := [0, 0]) (by rw [List.length_drop]; omega) hv.symm]

theorem l4Csum_filledHeader (hh : 12 ≤ h) (hd : h ≤ d.length) : l4Csum ipv (filledHeader ipv d h) h p f = l4Csum ipv d h p f := by
  cases ipv
  · have hfit : 10 + (bytes16 (headerCsum d h)).length ≤ d.length := show 10 + 2 ≤ d.length by omega
    rw [filledHeader, l4Csum, l4Csum, packetPh_patch (ipv := .v4) hfit (.inl (Nat.le_refl 12)), drop_patch_of_le hfit (show 10 + 2 ≤ h by omega)]
  · rfl

/-! #### Both checksums written -/

section
variable (hend : dstOff ipv + alenOf ipv ≤ h) (hd : h + f + 2 ≤ d.length)
include hend hd

theorem l4Field_fits : h + f + 2 ≤ (filledHeader ipv d h).length := by
  have := addresses_end_ge ipv
  rw [length_filledHeader (by omega)]
  omega

theorem length_filledL4 : (filledL4 ipv d h p f).length = d.length := by
  have := addresses_end_ge ipv
  rw [filledL4, length_patch (v := bytes16 _) (l4Field_fits hend hd), length_filledHeader (by omega)]

theorem l4Csum_filledL4 : l4Csum ipv (filledL4 ipv d h p f) h p f = l4Csum ipv d h p f := by
  have := addresses_end_ge ipv
  rw [filledL4, l4Csum_patch_field hend (l4Field_fits hend hd) rfl, l4Csum_filledHeader (by omega) (by omega)]

theorem be16At_filledL4_message : be16At (filledL4 ipv d h p f) (h + f) = l4Field p (l4Csum ipv (filledL4 ipv d h p f) h p f) := by
  rw [l4Csum_filledL4 hend hd]
  exact be16At_patch_bytes16 (l4Field_fits hend hd)

theorem be16At_filledL4_header (hv4 : ipv = .v4) : be16At (filledL4 ipv d h p f) 10 = headerCsum (filledL4 ipv d h p f) h := by
  have hge := addresses_end_ge ipv
  have hfits := l4Field_fits hend hd
  rw [filledL4, be16At_patch_of_disjoint (v := bytes16 _) hfits (.inl (by omega)),
    headerCsum_patch_of_le (v := bytes16 _) hfits (by omega), hv4, filledHeader, headerCsum_patch_field rfl (by omega) (by omega)]
  exact be16At_patch_bytes16 (by omega)

theorem zeroed_filledL4_v4 (hv4 : ipv = .v4) :
    patch (patch (filledL4 ipv d h p f) 10 [0, 0]) (h + f) [0, 0] = patch (patch d 10 [0, 0]) (h + f) [0, 0] := by
  have hge := addresses_end_ge ipv
  rw [filledL4, hv4, filledHeader]
  exact patch_fields_again (v := bytes16 _) (w := bytes16 _) (show 10 + 2 ≤ h + f by omega) hd rfl rfl

omit hend in
theorem zeroed_filledL4_v6 (hv6 : ipv = .v6) : patch (filledL4 ipv d h p f) (h + f) [0, 0] = patch d (h + f) [0, 0] := by
  rw [filledL4, hv6, filledHeader]
  exact patch_patch_same (v := bytes16 _) hd rfl

theorem take_filledL4 : (filledL4 ipv d h p f).take h = (filledHeader ipv d h).take h :=
  take_patch_of_le (v := bytes16 _) (l4Field_fits hend hd) (Nat.le_add_right h f)

/-- The message of the packet is the message given, but for its checksum. -/
theorem drop_filledL4 : (filledL4 ipv d h p f).drop h = patch (d.drop h) f (bytes16 (l4Field p (l4Csum ipv d h p f))) := by
  have hge := addresses_end_ge ipv
  have hheader : (filledHeader ipv d h).drop h = d.drop h := by
    cases ipv
    · exact drop_patch_of_le (v := bytes16 _) (show 10 + 2 ≤ d.length by omega) (show 10 + 2 ≤ h by omega)
    · rfl
  rw [filledL4, drop_patch (v := bytes16 _) (l4Field_fits hend hd), hheader]

end

/-! ### Checksums that are right verify (R155) -/

theorem be16At_append_drop : be16At (ph ++ d.drop h) (ph.length + f) = be16At d (h + f) := by
  simp only [be16At, byteAt_eq_getElem?, Nat.add_assoc]
  rw [List.getElem?_append_right (by omega), List.getElem?_append_right (by omega), List.getElem?_drop, List.getElem?_drop,
    Nat.add_sub_cancel_left, Nat.add_sub_cancel_left]

theorem patch_append_left : patch (ph ++ e) (ph.length + f) v = ph ++ patch e f v := by
  rw [patch, patch, Nat.add_assoc, List.take_length_add_append, List.drop_length_add_append, List.append_assoc, List.append_assoc,
    List.append_assoc]

theorem verify_message (h' : be16At d (h + f) = csum (ph ++ patch (d.drop h) f [0, 0])) :
    verify csv (ph ++ d.drop h) (ph.length + f) false = true := by
  refine verify_of_eq csv ?_
  rw [be16At_append_drop, patch_append_left, h']

theorem verify_message_udp (h' : be16At d (h + f) = udpForm (csum (ph ++ patch (d.drop h) f [0, 0]))) :
    verify csv (ph ++ d.drop h) (ph.length + f) true = true := by
  refine verify_of_eq_udpForm csv ?_
  rw [be16At_append_drop, patch_append_left, h']

/-! ### Headers whose checksum is filled in (R180) -/

/-- What the checks of R180 ask of an IP header but for its checksum. -/
def IpHeaderShape (ipv : IPVersion) (d : List Byte) (h : Nat) (p : Byte) : Prop :=
  match ipv with
  | .v4 =>
    (byteAt d 0).toNat / 16 = 4 ∧ h = (byteAt d 0).toNat % 16 * 4 ∧ 20 ≤ h ∧ h ≤ d.length ∧ (be16At d 2).toNat = d.length ∧
      p = byteAt d 9
  | .v6 => (byteAt d 0).toNat / 16 = 6 ∧ h = 40 ∧ 40 ≤ d.length ∧ (be16At d 4).toNat + 40 = d.length ∧ p = byteAt d 6

theorem IpHeaderOk.shape (hok : IpHeaderOk m d h p) : IpHeaderShape m.ipv d h p := by
  cases hv : m.ipv with
  | v4 =>
    obtain ⟨hversion, hihl, hmin, hfit, htotal, -, hproto⟩ := (ipHeaderOk_v4 hv).1 hok
    exact ⟨hversion, hihl, hmin, hfit, htotal, hproto⟩
  | v6 => exact (ipHeaderOk_v6 hv).1 hok

theorem IpHeaderShape.patch (hs : IpHeaderShape ipv d h p) (hv : i + v.length ≤ d.length) (hi : srcOff ipv ≤ i) :
    IpHeaderShape ipv (patch d i v) h p := by
  cases ipv with
  | v4 =>
    have hi : 12 ≤ i := hi
    rw [IpHeaderShape, byteAt_patch_of_disjoint hv (.inl (by omega)), byteAt_patch_of_disjoint hv (.inl (by omega)),
      be16At_patch_of_disjoint hv (.inl (by omega)), length_patch hv]
    exact hs
  | v6 =>
    have hi : 8 ≤ i := hi
    rw [IpHeaderShape, byteAt_patch_of_disjoint hv (.inl (by omega)), byteAt_patch_of_disjoint hv (.inl (by omega)),
      be16At_patch_of_disjoint hv (.inl (by omega)), length_patch hv]
    exact hs

/-- A header of the right shape with its checksum written passes. -/
theorem IpHeaderShape.filled (hs : IpHeaderShape m.ipv d h p) : IpHeaderOk m (filledHeader m.ipv d h) h p := by
  cases hv : m.ipv with
  | v4 =>
    rw [hv] at hs
    obtain ⟨hversion, hihl, hmin, hfit, htotal, hproto⟩ := hs
    have hfield : 10 + (bytes16 (headerCsum d h)).length ≤ d.length := show 10 + 2 ≤ d.length by omega
    have hverify : verify m.csv ((filledHeader .v4 d h).take h) 10 false = true := by
      refine verify_of_eq _ ?_
      change _ = headerCsum (filledHeader .v4 d h) h
      rw [filledHeader, headerCsum_patch_field rfl (by omega) hfit, be16At, byteAt_take (by omega), byteAt_take (by omega)]
      exact be16At_patch_bytes16 hfield
    rw [ipHeaderOk_v4 hv, length_filledHeader (by omega), filledHeader, byteAt_patch_of_disjoint hfield (.inl (by omega)),
      byteAt_patch_of_disjoint hfield (.inl (by omega)), be16At_patch_of_disjoint hfield (.inl (by omega))]
    exact ⟨hversion, hihl, hmin, hfit, htotal, hverify, hproto⟩
  | v6 => rw [hv] at hs; exact (ipHeaderOk_v6 hv).2 hs

/-! ### ICMP packets that are filled in (R184, R205 item 2) -/

section
variable (hs : IpHeaderShape m.ipv d h p) (hend : dstOff m.ipv + alenOf m.ipv ≤ h) (hd : h + 8 ≤ d.length)
include hs hend hd

theorem ipHeaderOk_filledIcmp : IpHeaderOk m (filledIcmp m d h) h p := by
  have hge := addresses_end_ge m.ipv
  have hfits := icmpField_fits hend (show h + 4 ≤ d.length by omega)
  exact hs.filled.congr (length_patch hfits) (take_patch_of_le hfits (by omega))

/-- A filled ICMP packet is an echo request or reply by its type. -/
theorem sniffBytes_filledIcmp (hp : p = icmpProtoOf m.ipv) {c : HeaderSniff}
    (htype : c = .echoRequest ∧ byteAt d h = echoRequestType m.ipv ∨ c = .echoReply ∧ byteAt d h = echoReplyType m.ipv) :
    sniffBytes m (filledIcmp m d h) = .packet c (icmpProtoOf m.ipv) h (d.length - h) := by
  have hge := addresses_end_ge m.ipv
  have hfits := icmpField_fits hend (show h + 4 ≤ d.length by omega)
  have hlen : (filledIcmp m d h).length = d.length := (length_patch hfits).trans (length_filledHeader (by omega))
  have hbyte : byteAt (filledIcmp m d h) h = byteAt d h := by
    rw [filledIcmp, byteAt_patch_of_disjoint hfits (.inl (by omega))]
    cases m.ipv
    · exact byteAt_patch_of_disjoint (v := bytes16 _) (show 10 + 2 ≤ d.length by omega) (.inr (show 10 + 2 ≤ h by omega))
    · rfl
  have hproto : sniffProto m (filledIcmp m d h) h p = sniffIcmp m (filledIcmp m d h) h := by
    rw [sniffProto, hp]
    cases m.ipv <;> rfl
  have hverify := verify_message (csv := m.csv) (ph := icmpPh m (filledIcmp m d h) h) (f := 2)
    (be16At_filledIcmp_message hend (show h + 4 ≤ d.length by omega))
  have hdiffer : echoReplyType m.ipv ≠ echoRequestType m.ipv := by cases m.ipv <;> decide
  rw [sniffBytes_of_header (ipHeaderOk_filledIcmp hs hend hd), hproto, sniffIcmp]
  simp only [byteAt_drop, Nat.add_zero, hlen, hverify, hbyte]
  rw [if_neg (by omega), if_neg (by decide)]
  rcases htype with ⟨rfl, htype⟩ | ⟨rfl, htype⟩
  · rw [if_pos htype]
  · rw [if_neg (htype ▸ hdiffer), if_pos htype]

end

end

/-! ### The headers that `BuildIP` writes (R200) -/

section
variable {s : State} {b : Handle} {p : Byte} {dst : AddrWords} {n : Nat} {msg : List Byte} {seq : Half}

theorem be16At_bytes16n {n : Nat} (hn : n < 65536) : (be16At (bytes16n n) 0).toNat = n := by
  rw [bytes16n, be16At_bytes16]
  exact Nat.mod_eq_of_lt hn

theorem ipPacket_shape (hn : s.build.iph + msg.length < 65536) :
    IpHeaderShape s.build.ipv (s.ipPacket p dst msg) s.build.iph p := by
  have hlen : (s.ipPacket p dst msg).length = s.build.iph + msg.length := length_ipPacket
  cases hv : s.build.ipv with
  | v4 =>
    have hiph := iph_v4 hv
    have htotal : (be16At (s.ipPacket p dst msg) 2).toNat = 20 + msg.length := by
      simp only [State.ipPacket, hv]
      exact be16At_bytes16n (by omega)
    have hfirst : byteAt (s.ipPacket p dst msg) 0 = 0x45 := by simp only [State.ipPacket, hv]; rfl
    have hproto : byteAt (s.ipPacket p dst msg) 9 = p := by simp only [State.ipPacket, hv]; rfl
    rw [IpHeaderShape, hfirst, htotal, hproto, hlen, hiph]
    exact ⟨rfl, rfl, Nat.le_refl 20, Nat.le_add_right _ _, rfl, rfl⟩
  | v6 =>
    have hiph := iph_v6 hv
    have htotal : (be16At (s.ipPacket p dst msg) 4).toNat = msg.length := by
      simp only [State.ipPacket, hv]
      exact be16At_bytes16n (by omega)
    have hfirst : byteAt (s.ipPacket p dst msg) 0 = 0x60 := by simp only [State.ipPacket, hv]; rfl
    have hproto : byteAt (s.ipPacket p dst msg) 6 = p := by simp only [State.ipPacket, hv]; rfl
    rw [IpHeaderShape, hfirst, htotal, hproto, hlen, hiph]
    exact ⟨rfl, rfl, Nat.le_add_right _ _, Nat.add_comm _ _, rfl⟩

theorem drop_ipPacket : (s.ipPacket p dst msg).drop s.build.iph = msg := by
  rw [ipPacket_eq_append, List.drop_left' ipHeader_length]

/-! ### BUILD_ECHO, then PING_TO_PONG (R205 item 2) -/

theorem byteAt_echoPacket : byteAt (s.echoPacket seq) s.build.iph = echoRequestType s.build.ipv := by
  have h := byteAt_drop (s.echoPacket seq) s.build.iph 0
  rw [State.echoPacket, drop_ipPacket] at h
  exact h.symm

theorem buildEcho_sniff (hb : b.toNat < s.bufs.length) (hn : s.build.iph + 12 < 65536) :
    (s.buildEcho b seq).sniff b = .packet .echoRequest s.build.icmpProto s.build.iph 12 := by
  obtain ⟨hend, -⟩ := echo_fits (s := s) (seq := seq)
  have hlen := echoPacket_length (s := s) (seq := seq)
  have hmode : (s.buildEcho b seq).sniffMode = s.sniffMode := by simp [State.sniffMode]
  have hsniff := sniffBytes_filledIcmp (m := s.sniffMode) (ipPacket_shape (msg := s.echoRequest seq) (dst := s.regs.argaddr) hn)
    hend (by rw [length_ipPacket, echoRequest_length]; omega) (icmpProto_eq s.build) (.inl ⟨rfl, byteAt_echoPacket⟩)
  rw [State.sniff, hmode, buildEcho_packet hb hn, icmpProto_eq]
  rw [show s.ipPacket s.build.icmpProto s.regs.argaddr (s.echoRequest seq) = s.echoPacket seq from rfl, hlen,
    Nat.add_sub_cancel_left] at hsniff
  exact hsniff

/-- PING_TO_PONG of an echo request leaves an echo reply of the same length. -/
theorem makePong_sniff {h : Nat} (hs : s.sniff b = .packet .echoRequest p h n) :
    (s.makePong b h).sniff b = .packet .echoReply s.build.icmpProto h n := by
  obtain ⟨hend, hn, hlong⟩ := sniffBytes_packet hs
  obtain ⟨q, hok, hproto⟩ := header_of_packet hs
  have hend : dstOff s.build.ipv + alenOf s.build.ipv ≤ h := hend
  have hq : q = icmpProtoOf s.build.ipv := by
    rw [sniffProto] at hproto
    split_ifs at hproto with htcp hudp hicmp
    · rw [sniffTcp] at hproto
      split_ifs at hproto
      exact absurd (Sniffed.packet.inj hproto).1 (by decide)
    · rw [sniffUdp] at hproto
      split_ifs at hproto
      · exact absurd (Sniffed.packet.inj hproto).1 (by decide)
      · exact absurd (Sniffed.packet.inj hproto).1 (by decide)
    · exact hicmp
  have hhost : s.hostBytes.length = alenOf s.build.ipv := addrBytes_length _ _
  have hfit : h + 1 ≤ (s.packet b).length := by omega
  obtain ⟨hord, hdst, hsrc, htype⟩ := pongOf_fits hhost hend hfit
  have hlen := length_pongOf hhost hend hfit
  have hshape : IpHeaderShape s.sniffMode.ipv (pongOf s.build.ipv s.hostBytes (s.packet b) h) h q :=
    ((hok.shape.patch hdst (by change srcOff s.build.ipv ≤ _; omega)).patch hsrc (Nat.le_refl _)).patch htype
      (by change srcOff s.build.ipv ≤ _; omega)
  have hreply : byteAt (pongOf s.build.ipv s.hostBytes (s.packet b) h) h = echoReplyType s.build.ipv :=
    byteAt_patch_same (j := 0) htype Nat.zero_lt_one
  have hmode : (s.makePong b h).sniffMode = s.sniffMode := by simp [State.sniffMode]
  have hsniff := sniffBytes_filledIcmp hshape hend (by rw [hlen]; exact hlong) hq (.inr ⟨rfl, hreply⟩)
  rw [hlen, ← hn] at hsniff
  rw [State.sniff, hmode, makePong_packet hend (by rw [length_packet] at hlong; omega), icmpProto_eq]
  exact hsniff

/-- The sniff of a packet does not read STATUS or the result registers. -/
theorem State.finish_sniff {op err : Byte} {r0 r1 : Word} : (s.finish op err r0 r1).sniff b = s.sniff b := rfl

theorem answers_pingToPong {h : Nat} (hb : s.build.hasBuffer b) (hheld : s.hostHeld b) (hs : s.sniff b = .packet .echoRequest p h n) :
    Answers (exec (.pingToPong b) s) fun u => u.sniff b = .packet .echoReply s.build.icmpProto h n :=
  (answers_done (State.finish_sniff.trans (makePong_sniff hs))).of_eq (execPingToPong_echo hb hheld hs)

/-- Settles O38. -/
theorem echoRequestThenReply : Obligations.EchoRequestThenReply := by
  rintro s b seq ⟨⟨-, ⟨hcap, hcap'⟩, -⟩, hbufs, -⟩ hb hheld
  have hlt : b.toNat < s.bufs.length := hbufs ▸ hb
  have hsniff := buildEcho_sniff (seq := seq) hlt (by omega)
  have hheld' : (s.buildEcho b seq).hostHeld b := by
    rw [State.hostHeld, buildEcho_buf hlt]
    exact hheld
  have hbuild : (s.buildEcho b seq).build = s.build := s.buildEcho_build b seq
  refine Answers.of_eq ?_ ((check_passed hb).trans (check_passed hheld))
  generalize s.buildEcho b seq = t at hsniff hheld' hbuild ⊢
  refine answers_done ⟨hsniff, ?_⟩
  rw [← hbuild] at hb hsniff ⊢
  exact answers_pingToPong hb hheld' hsniff

end

end Sys2Proof.Machine

/-! ### The packets of `BuildTCP` and `BuildUDP` (42_header.md R200 to R204) -/

namespace Sys2Proof.Machine

/-- What `BuildTCP` and `BuildUDP` share: a message of protocol `p` that is a header and a payload, under the header of `BuildIP`, with
the checksum at `f` of the message filled in. -/
def State.buildMessage (s : State) (b : Handle) (p : Byte) (dst : AddrWords) (hdr payload : List Byte) (f : Nat) (kind : L4Kind) : State :=
  (((s.buildIp b p (hdr.length + payload.length) (addrBytes s.build.ipv dst)).writeBytes b s.build.iph hdr).writeBytes b
    (s.build.iph + hdr.length) payload).fillL4Csum b s.build.iph p f kind

/-- The TCP header of a segment of slot `x`, its checksum left 0 (R201). -/
def State.tcpHeader (s : State) (x : Conn) (fl : Byte) : List Byte :=
  bytes16 x.lport ++ bytes16 x.rport ++ bytes32 x.sndSeq ++ bytes32 (if hasFlag fl flAck then x.rcvAck else 0) ++ [0x50, fl] ++
    bytes16 s.regs.tcpwin ++ [0x00, 0x00] ++ [0x00, 0x00]

/-- The UDP header of a datagram of slot `x` with `n` bytes of payload, its checksum left 0 (R202). -/
def udpHeader (x : Conn) (n : Nat) : List Byte := bytes16 x.lport ++ bytes16 x.rport ++ bytes16n (8 + n) ++ [0x00, 0x00]

section
variable {s t : State} {b : Handle} {p : Byte} {dst : AddrWords} {hdr payload msg : List Byte} {f k n : Nat} {kind : L4Kind} {fl : Byte}
  {x : Conn}

theorem length_tcpHeader : (s.tcpHeader x fl).length = 20 := rfl

theorem length_udpHeader : (udpHeader x n).length = 8 := rfl

theorem buildTcp_eq : s.buildTcp b k fl payload =
    s.buildMessage b protoTcp (s.conn k).raddr (s.tcpHeader (s.conn k) fl) payload 16 .tcp := rfl

theorem buildUdp_eq : s.buildUdp b k payload =
    s.buildMessage b protoUdp (s.conn k).raddr (udpHeader (s.conn k) payload.length) payload 6 .udp := rfl

/-! #### The bytes of the packet -/

/-- `FillL4Csum` of a segment or datagram writes its checksum and nothing else (R203, R204). -/
theorem fillL4Csum_packet {h : Nat} (hkind : kind = .tcp ∧ p ≠ protoUdp ∨ kind = .udp ∧ p = protoUdp)
    (hend : dstOff s.build.ipv + alenOf s.build.ipv ≤ h) (hlen : h + f + 2 ≤ (s.buf b).len.toNat) :
    (s.fillL4Csum b h p f kind).packet b =
      patch (s.packet b) (h + f) (bytes16 (l4Field p (l4Csum s.build.ipv (s.packet b) h p f))) := by
  have hlen' : h + f + [(0 : Byte), 0].length ≤ (s.packet b).length := by rwa [length_packet]
  have hzero : (s.writeBytes b (h + f) [0, 0]).packet b = patch (s.packet b) (h + f) [0, 0] := packet_writeBytes hlen
  have hcsum : csum (packetPh s.build.ipv (patch (s.packet b) (h + f) [0, 0]) h p ++ (patch (s.packet b) (h + f) [0, 0]).drop h) =
      l4Csum s.build.ipv (s.packet b) h p f := by
    rw [packetPh_patch hlen' (.inr (by omega)), drop_patch hlen', l4Csum]
  have hfill : s.fillL4Csum b h p f kind =
      (s.writeBytes b (h + f) [0, 0]).writeBytes b (h + f) (bytes16 (l4Field p (l4Csum s.build.ipv (s.packet b) h p f))) := by
    rw [← hcsum, State.fillL4Csum, hzero, l4Field]
    rcases hkind with ⟨rfl, hp⟩ | ⟨rfl, rfl⟩
    · rw [if_neg hp]; rfl
    · rfl
  rw [hfill, packet_writeBytes hlen, hzero]
  exact patch_patch_same (v := [0, 0]) hlen' rfl

/-- Two patches side by side are one. -/
theorem patch_patch_adjacent {d v w : List Byte} {i : Nat} (h : i + v.length + w.length ≤ d.length) :
    patch (patch d i v) (i + v.length) w = patch d i (v ++ w) := by
  refine List.ext_getElem? fun j => ?_
  rw [getElem?_patch (by rwa [length_patch (by omega)]), getElem?_patch (by omega),
    getElem?_patch (by rw [List.length_append]; omega), List.length_append]
  grind

theorem buildIp_len (hb : b.toNat < s.bufs.length) (hn : s.build.iph + n < 65536) {addr : List Byte} :
    ((s.buildIp b p n addr).buf b).len.toNat = s.build.iph + n := by
  rw [State.buf_congr (s := s.setLength b _) (s.buildIp_bufs b _ _ _) b, setLength_len hb hn]

/-- The packet that a builder writes is that of R200 with its checksums. -/
theorem buildMessage_packet (hkind : kind = .tcp ∧ p ≠ protoUdp ∨ kind = .udp ∧ p = protoUdp) (hb : b.toNat < s.bufs.length)
    (hsize : hdr.length = n) (hn : s.build.iph + (n + payload.length) < 65536) (hf : f + 2 ≤ n) :
    (s.buildMessage b p dst hdr payload f kind).packet b =
      filledL4 s.build.ipv (s.ipPacket p dst (hdr ++ payload)) s.build.iph p f := by
  subst hsize
  have hend : dstOff s.build.ipv + alenOf s.build.ipv ≤ s.build.iph := (iph_eq s.build).ge
  have hge := iph_ge (s := s)
  have hip := buildIp_packet (p := p) (dst := dst) hb hn
  have hbuildIp := s.buildIp_build b p (hdr.length + payload.length) (addrBytes s.build.ipv dst)
  have hlen := buildIp_len (p := p) (addr := addrBytes s.build.ipv dst) hb hn
  have hmsg : (hdr ++ payload).length = (s.readBytes b s.build.iph (hdr.length + payload.length)).length := by
    rw [List.length_append, s.readBytes_length]
  have hfits : s.build.iph + (hdr ++ payload).length ≤
      (s.ipPacket p dst (s.readBytes b s.build.iph (hdr.length + payload.length))).length := by rw [length_ipPacket, hmsg]
  rw [State.buildMessage]
  generalize s.buildIp b p (hdr.length + payload.length) (addrBytes s.build.ipv dst) = t at hip hbuildIp hlen ⊢
  have hbody : ((t.writeBytes b s.build.iph hdr).writeBytes b (s.build.iph + hdr.length) payload).packet b =
      filledHeader s.build.ipv (s.ipPacket p dst (hdr ++ payload)) s.build.iph := by
    rw [packet_writeBytes (s := t.writeBytes b s.build.iph hdr) (by change _ ≤ (t.buf b).len.toNat; omega),
      packet_writeBytes (by omega), patch_patch_adjacent (by rw [length_packet]; omega), hip,
      ← filledHeader_patch hfits (by omega) (Nat.le_refl _), patch_ipPacket hmsg]
  have hbuild : ((t.writeBytes b s.build.iph hdr).writeBytes b (s.build.iph + hdr.length) payload).build = s.build := hbuildIp
  have hfill := fillL4Csum_packet (s := (t.writeBytes b s.build.iph hdr).writeBytes b (s.build.iph + hdr.length) payload) (b := b)
    (h := s.build.iph) (f := f) hkind (by rwa [hbuild]) (by change _ ≤ (t.buf b).len.toNat; omega)
  rw [hfill, hbody, hbuild, l4Csum_filledHeader (by omega) (by rw [length_ipPacket]; omega), filledL4]

theorem fillL4Csum_sameDataBut {h : Nat} (hlen : h + f + 2 ≤ 65536) :
    SameDataBut s (s.fillL4Csum b h p f kind) b (h + f) 2 :=
  (sameDataBut_writeBytes (d := [0, 0]) hlen).trans (sameDataBut_writeBytes (d := bytes16 _) hlen)

theorem buildMessage_sameDataBut (hsize : hdr.length = n) (hn : s.build.iph + (n + payload.length) ≤ 65536) (hf : f + 2 ≤ n) :
    SameDataBut s (s.buildMessage b p dst hdr payload f kind) b 0 (s.build.iph + (n + payload.length)) := by
  subst hsize
  have hip := buildIp_sameDataBut (s := s) (b := b) (p := p) (dst := dst) hn
  have hhdr := sameDataBut_writeBytes (s := s.buildIp b p (hdr.length + payload.length) (addrBytes s.build.ipv dst)) (b := b)
    (o := s.build.iph) (d := hdr) (by omega)
  have hpay := sameDataBut_writeBytes
    (s := (s.buildIp b p (hdr.length + payload.length) (addrBytes s.build.ipv dst)).writeBytes b s.build.iph hdr) (b := b)
    (o := s.build.iph + hdr.length) (d := payload) (by omega)
  exact ((hip.trans (hhdr.mono (Nat.zero_le _) (by omega))).trans (hpay.mono (Nat.zero_le _) (by omega))).trans
    ((fillL4Csum_sameDataBut (by omega)).mono (Nat.zero_le _) (by omega))

/-! #### What the packet is to Sniff -/

section
variable (hn : s.build.iph + msg.length < 65536) (hf : f + 2 ≤ msg.length)
include hf

theorem message_fits : dstOff s.build.ipv + alenOf s.build.ipv ≤ s.build.iph ∧ s.build.iph + f + 2 ≤ (s.ipPacket p dst msg).length :=
  ⟨(iph_eq s.build).ge, by rw [length_ipPacket]; omega⟩

/-- The message in the packet is the message given, but for its checksum. -/
theorem drop_filled_ipPacket : ∃ c, (filledL4 s.build.ipv (s.ipPacket p dst msg) s.build.iph p f).drop s.build.iph =
    patch msg f (bytes16 c) := by
  obtain ⟨hend, hfits⟩ := message_fits (s := s) (p := p) (dst := dst) hf
  have h := drop_filledL4 (p := p) hend hfits
  rw [drop_ipPacket] at h
  exact ⟨_, h⟩

theorem length_filled_ipPacket : (filledL4 s.build.ipv (s.ipPacket p dst msg) s.build.iph p f).length = s.build.iph + msg.length := by
  obtain ⟨hend, hfits⟩ := message_fits (s := s) (p := p) (dst := dst) hf
  rw [length_filledL4 hend hfits, length_ipPacket]

/-- It is the packet that R200 and R203 describe. -/
theorem wrotePacket_filled (hzero : patch msg f [0, 0] = msg) :
    s.wrotePacket (filledL4 s.build.ipv (s.ipPacket p dst msg) s.build.iph p f) p dst f msg := by
  obtain ⟨hend, hfits⟩ := message_fits (s := s) (p := p) (dst := dst) hf
  have hfits' : s.build.iph + f + [(0 : Byte), 0].length ≤ (s.ipPacket p dst msg).length := hfits
  have hpacket : patch (s.ipPacket p dst msg) (s.build.iph + f) [0, 0] = s.ipPacket p dst msg := by
    have h := drop_patch hfits'
    rw [drop_ipPacket, hzero] at h
    rw [← List.take_append_drop s.build.iph (patch _ _ _), h, take_patch_of_le hfits' (Nat.le_add_right _ _), ipPacket_eq_append,
      List.take_left' ipHeader_length]
  have hfield := be16At_filledL4_message (p := p) hend hfits
  refine ⟨fun hv => ⟨?_, ?_⟩, fun hv => ?_, ?_⟩
  · have hzeroed := zeroed_filledL4_v4 (p := p) hend hfits hv
    have hheader : patch (s.ipPacket p dst msg) 10 [0, 0] = s.ipPacket p dst msg := by
      simp only [State.ipPacket, hv]
      rfl
    rw [hheader, hpacket] at hzeroed
    rw [← iph_v4 hv]
    exact hzeroed
  · rw [← iph_v4 hv]
    exact be16At_filledL4_header hend hfits hv
  · have hzeroed := zeroed_filledL4_v6 (p := p) hfits hv
    rw [hpacket] at hzeroed
    rw [← iph_v6 hv]
    exact hzeroed
  · generalize filledL4 s.build.ipv (s.ipPacket p dst msg) s.build.iph p f = d at hfield
    rw [hfield, l4Csum, packetPh_eq_wirePh, l4Field, udpForm]
    exact (ite_and _ _ _ _).symm

include hn

theorem sniffBytes_filled_ipPacket :
    sniffBytes s.sniffMode (filledL4 s.build.ipv (s.ipPacket p dst msg) s.build.iph p f) =
      sniffProto s.sniffMode (filledL4 s.build.ipv (s.ipPacket p dst msg) s.build.iph p f) s.build.iph p := by
  obtain ⟨hend, hfits⟩ := message_fits (s := s) (p := p) (dst := dst) hf
  have hheader : IpHeaderOk s.sniffMode (filledHeader s.build.ipv (s.ipPacket p dst msg) s.build.iph) s.build.iph p :=
    IpHeaderShape.filled (ipPacket_shape hn)
  refine sniffBytes_of_header (hheader.congr ?_ (take_filledL4 hend hfits))
  have := iph_ge (s := s)
  rw [length_filledL4 hend hfits, length_filledHeader (by omega)]

end

end

/-! #### Segments (R172, R182, R201) -/

section
variable {s t : State} {b : Handle} {k : Nat} {fl : Byte} {payload : List Byte} {x : Conn}

/-- The packet of R201: a segment of slot `x` with its checksums. -/
def State.tcpPacket (s : State) (x : Conn) (fl : Byte) (payload : List Byte) : List Byte :=
  filledL4 s.build.ipv (s.ipPacket protoTcp x.raddr (s.tcpHeader x fl ++ payload)) s.build.iph protoTcp 16

/-- The packet of R202: a datagram of slot `x` with its checksums. -/
def State.udpPacket (s : State) (x : Conn) (payload : List Byte) : List Byte :=
  filledL4 s.build.ipv (s.ipPacket protoUdp x.raddr (udpHeader x payload.length ++ payload)) s.build.iph protoUdp 6

theorem buildTcp_packet (hb : b.toNat < s.bufs.length) (hn : s.build.iph + (20 + payload.length) < 65536) :
    (s.buildTcp b k fl payload).packet b = s.tcpPacket (s.conn k) fl payload :=
  (congrArg (·.packet b) buildTcp_eq).trans (buildMessage_packet (.inl ⟨rfl, by decide⟩) hb length_tcpHeader hn (by decide))

theorem buildUdp_packet (hb : b.toNat < s.bufs.length) (hn : s.build.iph + (8 + payload.length) < 65536) :
    (s.buildUdp b k payload).packet b = s.udpPacket (s.conn k) payload :=
  (congrArg (·.packet b) buildUdp_eq).trans (buildMessage_packet (.inr ⟨rfl, rfl⟩) hb length_udpHeader hn (by decide))

theorem tcpMessage_fits : 16 + 2 ≤ (s.tcpHeader x fl ++ payload).length := by
  rw [List.length_append, length_tcpHeader]; omega

theorem udpMessage_fits : 6 + 2 ≤ (udpHeader x payload.length ++ payload).length := by
  rw [List.length_append, length_udpHeader]; omega

theorem length_tcpPacket : (s.tcpPacket x fl payload).length = s.build.iph + (20 + payload.length) := by
  rw [State.tcpPacket, length_filled_ipPacket tcpMessage_fits, List.length_append, length_tcpHeader]

theorem length_udpPacket : (s.udpPacket x payload).length = s.build.iph + (8 + payload.length) := by
  rw [State.udpPacket, length_filled_ipPacket udpMessage_fits, List.length_append, length_udpHeader]

theorem hasFlag_ack : (if hasFlag fl flAck then x.rcvAck else 0) = if fl &&& 0x10 = 0 then 0 else x.rcvAck := by
  rw [hasFlag]
  by_cases h : fl &&& 0x10 = 0 <;> simp_all

theorem wroteTcp_tcpPacket : s.wroteTcp (s.tcpPacket x fl payload) x fl payload := by
  have h := wrotePacket_filled (s := s) (p := protoTcp) (dst := x.raddr)
    (tcpMessage_fits (s := s) (x := x) (fl := fl) (payload := payload)) rfl
  rw [State.wroteTcp, ← hasFlag_ack]
  exact h

theorem wroteUdp_udpPacket : s.wroteUdp (s.udpPacket x payload) x payload :=
  wrotePacket_filled (s := s) (p := protoUdp) (dst := x.raddr) udpMessage_fits rfl

/-- The first bytes of the message are those of the header. -/
theorem drop_tcpPacket : ∃ c, (s.tcpPacket x fl payload).drop s.build.iph = patch (s.tcpHeader x fl ++ payload) 16 (bytes16 c) :=
  drop_filled_ipPacket tcpMessage_fits

theorem drop_udpPacket : ∃ c, (s.udpPacket x payload).drop s.build.iph =
    patch (udpHeader x payload.length ++ payload) 6 (bytes16 c) :=
  drop_filled_ipPacket udpMessage_fits

theorem sniffBytes_tcpPacket (hn : s.build.iph + (20 + payload.length) < 65536) :
    sniffBytes s.sniffMode (s.tcpPacket x fl payload) = .packet .okay 6 s.build.iph (20 + payload.length) := by
  obtain ⟨hend, hfits⟩ := message_fits (s := s) (p := protoTcp) (dst := x.raddr)
    (tcpMessage_fits (s := s) (x := x) (fl := fl) (payload := payload))
  obtain ⟨c, hdrop⟩ := drop_tcpPacket (s := s) (x := x) (fl := fl) (payload := payload)
  have hoff : (byteAt ((s.tcpPacket x fl payload).drop s.build.iph) 12).toNat / 16 = 5 := by
    have hfield : byteAt (patch (s.tcpHeader x fl ++ payload) 16 (bytes16 c)) 12 = 0x50 := rfl
    rw [hdrop, hfield]; rfl
  have hverify := verify_message (csv := s.sniffMode.csv) (ph := packetPh s.build.ipv (s.tcpPacket x fl payload) s.build.iph protoTcp)
    (be16At_filledL4_message (p := protoTcp) hend hfits)
  have hlen := length_tcpPacket (s := s) (x := x) (fl := fl) (payload := payload)
  refine (sniffBytes_filled_ipPacket (by simpa [length_tcpHeader] using hn) tcpMessage_fits).trans ?_
  change sniffTcp s.sniffMode (s.tcpPacket x fl payload) s.build.iph = _
  simp only [sniffTcp, hlen, Nat.add_sub_cancel_left, hoff]
  rw [if_neg (by omega), if_neg (by decide), if_neg (by omega), if_neg]
  exact ne_of_eq_of_ne hverify (by decide)

theorem sniffBytes_udpPacket (hn : s.build.iph + (8 + payload.length) < 65536) :
    sniffBytes s.sniffMode (s.udpPacket x payload) = .packet .okay 17 s.build.iph (8 + payload.length) := by
  obtain ⟨hend, hfits⟩ := message_fits (s := s) (p := protoUdp) (dst := x.raddr) (udpMessage_fits (x := x) (payload := payload))
  obtain ⟨c, hdrop⟩ := drop_udpPacket (s := s) (x := x) (payload := payload)
  have hudpLen : (be16At ((s.udpPacket x payload).drop s.build.iph) 4).toNat = 8 + payload.length := by
    have hfield : be16At (patch (udpHeader x payload.length ++ payload) 6 (bytes16 c)) 4 = be16At (bytes16n (8 + payload.length)) 0 := rfl
    rw [hdrop, hfield, be16At_bytes16n (by omega)]
  have hverify := verify_message_udp (csv := s.sniffMode.csv) (ph := packetPh s.build.ipv (s.udpPacket x payload) s.build.iph protoUdp)
    (be16At_filledL4_message (p := protoUdp) hend hfits)
  have hlen := length_udpPacket (s := s) (x := x) (payload := payload)
  refine (sniffBytes_filled_ipPacket (by simpa [length_udpHeader] using hn) udpMessage_fits).trans ?_
  change sniffUdp s.sniffMode (s.udpPacket x payload) s.build.iph = _
  simp only [sniffUdp, hlen, Nat.add_sub_cancel_left, hudpLen]
  rw [if_neg (by omega), if_neg (not_not.2 rfl)]
  split_ifs with hnone hbad
  · rfl
  · exact absurd (hverify.symm.trans hbad) (by decide)
  · rfl

/-! #### The statement -/

theorem State.eq_setPool (hbuild : t.build = s.build) (hregs : t.regs = s.regs) (hcsa : t.csa = s.csa) (hdraw : t.draw = s.draw)
    (hchains : t.chains = s.chains) (hslf : t.slf = s.slf) (hconns : t.conns = s.conns) (hinput : t.input = s.input)
    (hread : t.readData = s.readData) : t = { s with bufs := t.bufs, mem := t.mem } := by
  cases s
  cases t
  simp_all

theorem buildTcp_eq_setPool : s.buildTcp b k fl payload =
    { s with bufs := (s.buildTcp b k fl payload).bufs, mem := (s.buildTcp b k fl payload).mem } :=
  State.eq_setPool (by simp) (by simp) (by simp) (by simp) (by simp) (by simp) (by simp) (by simp) (by simp)

theorem buildUdp_eq_setPool : s.buildUdp b k payload =
    { s with bufs := (s.buildUdp b k payload).bufs, mem := (s.buildUdp b k payload).mem } :=
  State.eq_setPool (by simp) (by simp) (by simp) (by simp) (by simp) (by simp) (by simp) (by simp) (by simp)

theorem sniff_of_packet {d : List Byte} (hmode : t.sniffMode = s.sniffMode) (hd : t.packet b = d) :
    t.sniff b = sniffBytes s.sniffMode d := by rw [State.sniff, hmode, hd]

theorem buildTcp_sniff (hb : b.toNat < s.bufs.length) (hn : s.build.iph + (20 + payload.length) < 65536) :
    (s.buildTcp b k fl payload).sniff b = .packet .okay 6 s.build.iph (20 + payload.length) :=
  (sniff_of_packet (by simp [State.sniffMode]) (buildTcp_packet hb hn)).trans (sniffBytes_tcpPacket hn)

theorem buildUdp_sniff (hb : b.toNat < s.bufs.length) (hn : s.build.iph + (8 + payload.length) < 65536) :
    (s.buildUdp b k payload).sniff b = .packet .okay 17 s.build.iph (8 + payload.length) :=
  (sniff_of_packet (by simp [State.sniffMode]) (buildUdp_packet hb hn)).trans (sniffBytes_udpPacket hn)

theorem buildTcp_buf (hb : b.toNat < s.bufs.length) : (s.buildTcp b k fl payload).buf b =
    { s.buf b with len := BitVec.ofNat 16 (s.build.iph + (20 + payload.length)), chan := 0 } :=
  (State.buf_congr (s := s.setLength b _) (s.buildTcp_bufs b k fl payload) b).trans (s.buf_setBuf_same b _ hb)

theorem buildTcp_buf_ne {c : Handle} (hc : c ≠ b) : (s.buildTcp b k fl payload).buf c = s.buf c :=
  (State.buf_congr (s := s.setLength b _) (s.buildTcp_bufs b k fl payload) c).trans (s.buf_setBuf_ne _ hc)

theorem buildUdp_buf (hb : b.toNat < s.bufs.length) : (s.buildUdp b k payload).buf b =
    { s.buf b with len := BitVec.ofNat 16 (s.build.iph + (8 + payload.length)), chan := 0 } :=
  (State.buf_congr (s := s.setLength b _) (s.buildUdp_bufs b k payload) b).trans (s.buf_setBuf_same b _ hb)

theorem buildUdp_buf_ne {c : Handle} (hc : c ≠ b) : (s.buildUdp b k payload).buf c = s.buf c :=
  (State.buf_congr (s := s.setLength b _) (s.buildUdp_bufs b k payload) c).trans (s.buf_setBuf_ne _ hc)

theorem buildTcp_sameDataBut (hn : s.build.iph + (20 + payload.length) ≤ 65536) :
    SameDataBut s (s.buildTcp b k fl payload) b 0 (s.build.iph + (20 + payload.length)) :=
  buildTcp_eq ▸ buildMessage_sameDataBut length_tcpHeader hn (by decide)

theorem buildUdp_sameDataBut (hn : s.build.iph + (8 + payload.length) ≤ 65536) :
    SameDataBut s (s.buildUdp b k payload) b 0 (s.build.iph + (8 + payload.length)) :=
  buildUdp_eq ▸ buildMessage_sameDataBut length_udpHeader hn (by decide)

/-- A payload of at most MAXPAY bytes fits into a buffer (R13). -/
theorem tcp_fits (hg : s.build.valid) (hp : payload.length ≤ s.build.maxpayTcp) : s.build.iph + (20 + payload.length) < 65536 := by
  obtain ⟨-, ⟨hcap, hcap'⟩, -⟩ := hg
  rw [Config.maxpayTcp] at hp
  omega

theorem udp_fits (hg : s.build.valid) (hp : payload.length ≤ s.build.maxpayUdp) : s.build.iph + (8 + payload.length) < 65536 := by
  obtain ⟨-, ⟨hcap, hcap'⟩, -⟩ := hg
  rw [Config.maxpayUdp] at hp
  omega

/-- Settles O37. -/
theorem builtPacketsSniffOkay : Obligations.BuiltPacketsSniffOkay := by
  rintro s b k fl payload ⟨hvalid, hbufs, -⟩ hb
  have hlt : b.toNat < s.bufs.length := hbufs ▸ hb
  refine ⟨fun hp => ?_, fun hp => ?_⟩
  · have hn := tcp_fits hvalid hp
    exact ⟨buildTcp_sniff hlt hn, (buildTcp_packet hlt hn).symm ▸ wroteTcp_tcpPacket, buildTcp_buf hlt, fun _ => buildTcp_buf_ne,
      buildTcp_sameDataBut hn.le, buildTcp_eq_setPool⟩
  · have hn := udp_fits hvalid hp
    exact ⟨buildUdp_sniff hlt hn, (buildUdp_packet hlt hn).symm ▸ wroteUdp_udpPacket, buildUdp_buf hlt, fun _ => buildUdp_buf_ne,
      buildUdp_sameDataBut hn.le, buildUdp_eq_setPool⟩

end

end Sys2Proof.Machine

/-! ### What the unit queries report (42_header.md R180 to R185, 43_slip.md R228, 44_connection.md R254 to R257) -/

namespace Sys2Proof.Machine

open BitVec (extractLsb'_append_eq_left extractLsb'_append_eq_right extractLsb'_append_eq_of_le)

/-! #### Sniff, check by check -/

section
variable {m : SniffMode} {d : List Byte} {h : Nat} {p : Byte}

/-- The last check of a transport header decides between its two outcomes. -/
theorem ite_eq_false {α : Type} (v : Bool) (x y : α) : (if v = false then x else y) = if v then y else x := by
  cases v <;> rfl

theorem icmpPh_eq : icmpPh m d h =
    if m.ipv = .v6 ∨ m.icmp4ph = true then wirePh m.ipv d h (if m.ipv = .v4 then 1 else 58) else [] := by
  rw [icmpPh, packetPh_eq_wirePh]
  cases m.ipv <;> rfl

theorem icmpProtoOf_eq (ipv : IPVersion) : icmpProtoOf ipv = if ipv = .v4 then 1 else 58 := by cases ipv <;> rfl

theorem echoRequestType_eq (ipv : IPVersion) : echoRequestType ipv = if ipv = .v4 then 8 else 128 := by cases ipv <;> rfl

theorem echoReplyType_eq (ipv : IPVersion) : echoReplyType ipv = if ipv = .v4 then 0 else 129 := by cases ipv <;> rfl

theorem sniffProto_follows : TransportFollows m d h p (sniffProto m d h p) := by
  refine ⟨?tcp, ?udp, ?icmp, ?other⟩
  case tcp =>
    rintro rfl
    have hproto : sniffProto m d h 6 = sniffTcp m d h := rfl
    simp only [hproto, sniffTcp, byteAt_drop, packetPh_eq_wirePh, ite_eq_false]
    refine ⟨fun h1 => if_pos h1, fun h1 h2 => ?_, fun h1 h2 h3 => ?_, fun h1 h2 h3 => ?_⟩
    · rw [if_neg (by omega), if_pos h2]
    · rw [if_neg (by omega), if_neg (by omega), if_pos h3]
    · rw [if_neg (by omega), if_neg (by omega), if_neg (by omega)]
  case udp =>
    rintro rfl
    have hproto : sniffProto m d h 17 = sniffUdp m d h := rfl
    simp only [hproto, sniffUdp, be16At_drop, packetPh_eq_wirePh, ite_eq_false]
    refine ⟨fun h1 => if_pos h1, fun h1 h2 => ?_, fun h1 h2 h3 h4 => ?_, fun h1 h2 h3 => ?_⟩
    · rw [if_neg (by omega), if_pos h2]
    · rw [if_neg (by omega), if_neg (by omega), if_pos ⟨h3, h4⟩]
    · rw [if_neg (by omega), if_neg (by omega), if_neg h3]
  case icmp =>
    intro hp
    have hproto : sniffProto m d h p = sniffIcmp m d h := by
      rw [hp, ← icmpProtoOf_eq, sniffProto]
      cases m.ipv <;> rfl
    rw [hproto, sniffIcmp, icmpPh_eq]
    simp only [byteAt_drop, Nat.add_zero, icmpProtoOf_eq, echoRequestType_eq, echoReplyType_eq]
    refine ⟨fun h1 => if_pos h1, fun h1 h2 => ?_, fun h1 h2 => ?_⟩
    · rw [if_neg (by omega), if_pos h2]
    · rw [if_neg (by omega), if_neg (by rw [h2]; decide)]
  case other =>
    intro htcp hudp hicmp
    rw [sniffProto, if_neg htcp, if_neg hudp, icmpProtoOf_eq, if_neg hicmp]

theorem sniffBytes_follows : SniffFollows m d (sniffBytes m d) := by
  refine ⟨fun hd => if_pos hd, fun hd hv => ?v4, fun hd hv => ?v6⟩
  case v4 =>
    rw [sniffBytes_v4 hv hd, sniffV4]
    refine ⟨fun h1 => if_pos h1, fun h1 h2 => ?_, fun h1 => ⟨fun h2 => ?_, fun h2 h3 => ?_, fun h2 h3 h4 => ?_, fun h2 h3 h4 =>
      ⟨fun h5 => ?_, fun h5 h6 => ?_, fun h5 h6 => ?_⟩⟩⟩
    · rw [if_neg h2, if_pos h1]
    all_goals rw [if_neg (by omega), if_neg (by omega)]
    · rw [if_pos h2]
    all_goals rw [if_neg (Nat.not_lt.2 h2)]
    · rw [if_pos h3]
    all_goals rw [if_neg (Nat.not_lt.2 h3)]
    · rw [if_pos h4]
    all_goals rw [if_neg (Nat.not_lt.2 h4)]
    · rw [if_pos h5]
    all_goals rw [if_neg (not_not.2 h5)]
    · rw [if_pos h6]
    · rw [if_neg (by rw [h6]; decide)]
      exact sniffProto_follows
  case v6 =>
    rw [sniffBytes_v6 hv hd, sniffV6]
    refine ⟨fun h1 => if_pos h1, fun h1 h2 => ?_, fun h1 => ⟨fun h2 => ?_, fun h2 h3 => ?_, fun h2 h3 => ?_⟩⟩
    · rw [if_neg h1, if_pos h2]
    all_goals rw [if_neg (by omega), if_neg (by omega)]
    · rw [if_pos h2]
    all_goals rw [if_neg (Nat.not_lt.2 h2)]
    · rw [if_pos h3]
    · rw [if_neg (not_not.2 h3)]
      exact sniffProto_follows

end

/-! #### The result words -/

section
variable (x : SlipChan) (y : Conn) (p : Byte) (h n : Nat)

theorem sniffWord_proto : (sniffWord p h n).extractLsb' 0 8 = p := extractLsb'_append_eq_right

theorem sniffWord_header : (sniffWord p h n).extractLsb' 8 8 = BitVec.ofNat 8 h := extractLsb'_append_append_middle _ _ _

theorem sniffWord_length : (sniffWord p h n).extractLsb' 16 16 = BitVec.ofNat 16 n :=
  (extractLsb'_append_eq_of_le (by decide)).trans extractLsb'_append_eq_left

/-- A field above the last part of a concatenation. -/
theorem extractLsb'_above {m n k j : Nat} {x : BitVec m} {y : BitVec n} {v : BitVec j} (hk : n ≤ k) (h : x.extractLsb' (k - n) j = v) :
    (x ++ y).extractLsb' k j = v := (extractLsb'_append_eq_of_le hk).trans h

/-- A bit above the last part of a concatenation. -/
theorem getLsbD_above {m n k : Nat} {x : BitVec m} {y : BitVec n} {v : Bool} (hk : n ≤ k) (h : x.getLsbD (k - n) = v) :
    (x ++ y).getLsbD k = v := by
  rw [BitVec.getLsbD_append, if_neg (Nat.not_lt.2 hk), h]

theorem getLsbD_append_bit {m : Nat} (x : BitVec m) (v : Bool) : (x ++ bit v).getLsbD 0 = v :=
  BitVec.getLsbD_append.trans (BitVec.getLsbD_ofBool _ _)

theorem slipStateWord_rxesc : (slipStateWord x).getLsbD 8 = x.rxesc := getLsbD_above (by decide) (getLsbD_append_bit _ _)

theorem slipStateWord_rxovf : (slipStateWord x).getLsbD 9 = x.rxovf :=
  getLsbD_above (by decide) (getLsbD_above (by decide) (getLsbD_append_bit _ _))

theorem slipStateWord_rxbuf : (slipStateWord x).extractLsb' 0 8 = x.rxbuf := extractLsb'_append_eq_right

theorem slipStateWord_reservedLow : (slipStateWord x).extractLsb' 10 6 = 0 := by
  iterate 3 refine extractLsb'_above (by decide) ?_
  exact extractLsb'_append_eq_right

theorem slipStateWord_txcur : (slipStateWord x).extractLsb' 16 8 = x.txcur := by
  iterate 4 refine extractLsb'_above (by decide) ?_
  exact extractLsb'_append_eq_right

theorem slipStateWord_txph : (slipStateWord x).extractLsb' 24 3 = txphCode x.txph := by
  iterate 5 refine extractLsb'_above (by decide) ?_
  exact extractLsb'_append_eq_right

theorem slipStateWord_reservedHigh : (slipStateWord x).extractLsb' 27 5 = 0 := by
  iterate 5 refine extractLsb'_above (by decide) ?_
  exact extractLsb'_append_eq_left

theorem connStatus0_state : (connStatus0 y).extractLsb' 0 3 = connStateCode y.state := extractLsb'_append_eq_right

theorem connStatus0_proto : (connStatus0 y).getLsbD 3 = decide (y.proto = .tcp) := by
  refine getLsbD_above (by decide) ?_
  rw [BitVec.getLsbD_append]
  cases y.proto <;> rfl

theorem connStatus0_reg : (connStatus0 y).getLsbD 4 = y.reg := by
  iterate 2 refine getLsbD_above (by decide) ?_
  exact getLsbD_append_bit _ _

theorem connStatus0_rbound : (connStatus0 y).getLsbD 5 = y.rbound := by
  iterate 3 refine getLsbD_above (by decide) ?_
  exact getLsbD_append_bit _ _

theorem connStatus0_listener : (connStatus0 y).getLsbD 6 = y.listener := by
  iterate 4 refine getLsbD_above (by decide) ?_
  exact getLsbD_append_bit _ _

theorem connStatus0_synDue : (connStatus0 y).getLsbD 7 = y.synDue := by
  iterate 5 refine getLsbD_above (by decide) ?_
  exact getLsbD_append_bit _ _

theorem connStatus0_synackDue : (connStatus0 y).getLsbD 8 = y.synackDue := by
  iterate 6 refine getLsbD_above (by decide) ?_
  exact getLsbD_append_bit _ _

theorem connStatus0_retxDue : (connStatus0 y).getLsbD 9 = y.retxDue := by
  iterate 7 refine getLsbD_above (by decide) ?_
  exact getLsbD_append_bit _ _

theorem connStatus0_ackDue : (connStatus0 y).getLsbD 10 = y.ackDue := by
  iterate 8 refine getLsbD_above (by decide) ?_
  exact getLsbD_append_bit _ _

theorem connStatus0_reserved : (connStatus0 y).getLsbD 11 = false := by
  iterate 9 refine getLsbD_above (by decide) ?_
  exact getLsbD_append_bit _ false

theorem connStatus0_retxCnt : (connStatus0 y).extractLsb' 12 4 = y.retxCnt := by
  iterate 10 refine extractLsb'_above (by decide) ?_
  exact extractLsb'_append_eq_right

theorem connStatus0_staged : (connStatus0 y).extractLsb' 16 8 = y.staged := by
  iterate 11 refine extractLsb'_above (by decide) ?_
  exact extractLsb'_append_eq_right

theorem connStatus0_retx : (connStatus0 y).extractLsb' 24 8 = y.retx := by
  iterate 11 refine extractLsb'_above (by decide) ?_
  exact extractLsb'_append_eq_left

theorem connStatus1_rfifo : (connStatus1 y).extractLsb' 0 16 = BitVec.ofNat 16 y.rfifo.length := extractLsb'_append_eq_right

theorem connStatus1_wfifo : (connStatus1 y).extractLsb' 16 16 = BitVec.ofNat 16 y.wfifo.length := extractLsb'_append_eq_left

theorem txphCode_toNat : (txphCode x.txph).toNat =
    match x.txph with | .idle => 0 | .lead => 1 | .data => 2 | .escDc => 3 | .escDd => 4 := by
  cases x.txph <;> rfl

theorem connStateCode_toNat : (connStateCode y.state).toNat =
    match y.state with
    | .closed => 0 | .listen => 1 | .synSent => 2 | .synRcvd => 3 | .opened => 4 | .closing => 5 := by
  cases y.state <;> rfl

end

/-- Settles O50. -/
theorem unitQueriesReport : Obligations.UnitQueriesReport := by
  intro s b c k _
  refine ⟨fun hb => if_pos hb, fun hb => ⟨sniffBytes_follows, fun e hs => ?bad, fun e p h n hs => ?packet⟩, fun hc => if_pos hc,
    fun hc => ?slip, fun hk => ⟨if_pos hk, if_pos hk, if_pos hk⟩, fun hk => ⟨?status, ?tcpinfo, ?getremote⟩⟩
  case bad =>
    have hexec : exec (.sniff b) s = s.done 0x30 (sniffCode e) 0 := (check_passed hb).trans (by rw [hs])
    exact answers_report.of_eq (hexec.trans (by cases e <;> rfl))
  case packet =>
    have hexec : exec (.sniff b) s = s.done 0x30 (sniffCode e) (sniffWord p h n) := (check_passed hb).trans (by rw [hs])
    refine (answers_report.imp fun t ⟨hreports, honly⟩ => ?_).of_eq hexec
    refine ⟨honly, sniffWord p h n, ?_, sniffWord_proto p h n, sniffWord_header p h n, sniffWord_length p h n⟩
    cases e <;> exact hreports
  case slip =>
    refine (answers_report.imp fun t ⟨hreports, honly⟩ => ?_).of_eq (check_passed hc)
    rw [halfWord_eq_setWidth] at hreports
    exact ⟨honly, _, hreports, slipStateWord_rxbuf _, slipStateWord_rxesc _, slipStateWord_rxovf _, slipStateWord_reservedLow _,
      slipStateWord_txcur _, (congrArg BitVec.toNat (slipStateWord_txph _)).trans (txphCode_toNat _), slipStateWord_reservedHigh _⟩
  case status =>
    refine (answers_report.imp fun t ⟨hreports, honly⟩ => ?_).of_eq (check_passed hk)
    exact ⟨honly, _, _, hreports, (congrArg BitVec.toNat (connStatus0_state _)).trans (connStateCode_toNat _),
      connStatus0_proto _, connStatus0_reg _, connStatus0_rbound _, connStatus0_listener _, connStatus0_synDue _,
      connStatus0_synackDue _, connStatus0_retxDue _, connStatus0_ackDue _, connStatus0_reserved _, connStatus0_retxCnt _,
      connStatus0_staged _, connStatus0_retx _, connStatus1_rfifo _, connStatus1_wfifo _⟩
  case tcpinfo => exact answers_report.of_eq (check_passed hk)
  case getremote =>
    exact (answers_done ⟨rfl, ⟨rfl, rfl, rfl, rfl⟩, ⟨rfl, rfl⟩, fun _ _ => rfl, rfl, rfl, rfl⟩).of_eq (check_passed hk)

end Sys2Proof.Machine

/-! ### Receiving a byte and a frame (43_slip.md R221 to R224) -/

namespace Sys2Proof.Machine

/-- Byte `x`, other than END, is a data byte of the frame, and not the escape byte that announces one (R223). -/
def SlipChan.isData (z : SlipChan) (x : Byte) : Prop := z.rxesc = true ∨ x ≠ 0xDB

/-- The data byte that byte `x` stands for (R223). -/
def SlipChan.decoded (z : SlipChan) (x : Byte) : Byte :=
  if z.rxesc = true ∧ x = 0xDC then 0xC0 else if z.rxesc = true ∧ x = 0xDD then 0xDB else x

section
variable {s t : State} {c x y : Byte} {b f : Handle} {l : List Handle}

/-- An update of a channel counts by what it does to the registers the channel has. -/
theorem State.setSlip_congr {c : Nat} {f g : SlipChan → SlipChan} (h : f (s.slip c) = g (s.slip c)) : s.setSlip c f = s.setSlip c g := by
  rcases Nat.lt_or_ge (c - 1) s.slf.length with hc | hc
  · rw [State.slip, List.getD_eq_getElem _ _ hc] at h
    rw [State.setSlip, State.setSlip, List.modify_eq_take_cons_drop hc, List.modify_eq_take_cons_drop hc, h]
  · rw [setSlip_of_length_le hc, setSlip_of_length_le hc]

theorem State.setSlip_id (s : State) (c : Nat) : s.setSlip c id = s := by simp [State.setSlip]

theorem State.setSlip_setSlip (s : State) (c : Nat) (f g : SlipChan → SlipChan) :
    (s.setSlip c f).setSlip c g = s.setSlip c fun z => g (f z) := by
  simp only [State.setSlip, List.modify_modify_eq]
  rfl

/-! #### One byte -/

theorem rxByte_escape (h : ¬ (s.slip c.toNat).isData x) :
    s.rxByte c b x = s.setSlip c.toNat fun z => { z with rxesc := true } := by
  obtain ⟨hesc, hx⟩ : (s.slip c.toNat).rxesc = false ∧ x = slipEsc := by simpa [SlipChan.isData] using h
  rw [State.rxByte, hesc, if_neg (by decide), if_pos hx]

theorem rxByte_data (h : (s.slip c.toNat).isData x) :
    s.rxByte c b x = slipStore c b ((s.slip c.toNat).decoded x) (s.setSlip c.toNat fun z => { z with rxesc := false }) := by
  unfold State.rxByte SlipChan.decoded
  cases hesc : (s.slip c.toNat).rxesc with
  | true => simp
  | false =>
    have hx : x ≠ slipEsc := by simpa [SlipChan.isData, hesc] using h
    have hsame : (s.setSlip c.toNat fun z => { z with rxesc := false }) = s :=
      (State.setSlip_congr (g := id) (by rw [← hesc]; rfl)).trans (s.setSlip_id _)
    rw [hsame, if_neg (by decide), if_neg hx, if_neg (by simp), if_neg (by simp)]

theorem rxByte_full (h : (s.slip c.toNat).isData x) (hfull : (s.buf b).len.toNat = s.build.bufCap) :
    s.rxByte c b x = s.setSlip c.toNat fun z => { z with rxesc := false, rxovf := true } := by
  rw [rxByte_data h]
  exact (if_pos hfull).trans (s.setSlip_setSlip _ _ _)

theorem rxByte_room (h : (s.slip c.toNat).isData x) (hroom : (s.buf b).len.toNat ≠ s.build.bufCap) :
    s.rxByte c b x = ((s.setSlip c.toNat fun z => { z with rxesc := false }).writeBytes b (s.buf b).len.toNat
      [(s.slip c.toNat).decoded x]).setBuf b fun z => { z with len := z.len + 1 } := by
  rw [rxByte_data h]
  exact if_neg hroom

/-- A data byte that fits is stored at LEN, and nothing else changes but RXESC. -/
structure Stored (s t : State) (c : Byte) (b : Handle) (y : Byte) : Prop where
  slip : t.slip c.toNat = { s.slip c.toNat with rxesc := false }
  slips : SameSlipBut s t c.toNat
  byte : t.readByte b (s.buf b).len.toNat = y
  data : SameDataBut s t b (s.buf b).len.toNat 1
  buf : t.buf b = { s.buf b with len := (s.buf b).len + 1 }
  bufs : SameBufsBut s t b
  chains : t.chains = s.chains

theorem rxByte_stored (hc : 1 ≤ c.toNat) (hi : c.toNat - 1 < s.slf.length) (hb : b.toNat < s.bufs.length)
    (h : (s.slip c.toNat).isData x) (hroom : (s.buf b).len.toNat ≠ s.build.bufCap) :
    Stored s (s.rxByte c b x) c b ((s.slip c.toNat).decoded x) := by
  have hfit : (s.buf b).len.toNat + [(s.slip c.toNat).decoded x].length ≤ 65536 := (s.buf b).len.isLt
  rw [rxByte_room h hroom]
  refine ⟨s.slip_setSlip_same c.toNat _ hi, sameSlipBut_setSlip hc, ?_, ?_, ?_, fun h hh => ?_, rfl⟩
  · have hread := State.readByte_writeBytes (s.setSlip c.toNat fun z => { z with rxesc := false }) b (s.buf b).len.toNat
      [(s.slip c.toNat).decoded x] b (s.buf b).len.toNat hfit (by omega)
    rw [if_pos ⟨rfl, Nat.le_refl _, Nat.lt_succ_self _⟩, Nat.sub_self] at hread
    exact hread
  · exact sameDataBut_writeBytes (s := s.setSlip c.toNat _) hfit
  · exact ((s.setSlip c.toNat _).writeBytes b _ _).buf_setBuf_same b _ hb
  · exact ((s.setSlip c.toNat _).writeBytes b _ _).buf_setBuf_ne _ hh

/-- Storing a byte follows no link and moves no buffer. -/
theorem Stored.chainList (h : Stored s t c b y) (hbuild : t.build = s.build) (d : Nat) : t.chainList d = s.chainList d := by
  refine State.chainList_congr_next hbuild (fun x => ?_) h.chains d
  by_cases hx : x = b
  · rw [hx, h.buf]
  · rw [h.bufs x hx]

/-! #### A fresh receive buffer (R222) -/

/-- A spare taken as the receive buffer of channel `c`. -/
structure RxLoaded (s t : State) (c : Byte) (f : Handle) (l : List Handle) : Prop where
  slip : t.slip c.toNat = { s.slip c.toNat with rxbuf := f }
  slips : SameSlipBut s t c.toNat
  buf : t.buf f = { s.buf f with len := 0, chan := 0, next := NONE, loc := .hold }
  bufs : SameBufsBut s t f
  spare : t.chainList SPARE = l
  chains : SameChainsBut s t [SPARE]
  data : SameData s t
  keeps : SlipKeeps s t
  slfLength : t.slf.length = s.slf.length
  bufsLength : t.bufs.length = s.bufs.length

theorem rxLoaded (hs : ChainsSound s) (hc : 1 ≤ c.toNat) (hi : c.toNat - 1 < s.slf.length) (h : s.chainList SPARE = f :: l) :
    s.takeSpare.1 = f ∧ s.build.hasBuffer f ∧ RxLoaded s (s.takeSpare.2.loadRx c.toNat f) c f l := by
  obtain ⟨hhandle, hbuf, hframe, he⟩ := hs.takeSpare_cons h
  have hf := (hs.holds SPARE (spare_lt s)).hasBuffer f (h ▸ List.mem_cons_self)
  have hu := he.chainsSound hs
  have hlt : f.toNat < s.takeSpare.2.bufs.length := by rw [he.pool.bufs_length]; exact hs.lt_bufs_length hf
  have hloaded (d : Nat) : (s.takeSpare.2.loadRx c.toNat f).chainList d = s.takeSpare.2.chainList d :=
    (State.setLoc_chainList (s := s.takeSpare.2.setSlip c.toNat _) hlt d).trans (State.setSlip_chainList d)
  have hslip := s.takeSpare.2.slip_setSlip_same c.toNat (fun z => { z with rxbuf := f }) (by rwa [he.pool.slf])
  refine ⟨hhandle, hf, ⟨hslip.trans ?_, fun d hd hne => ?_, ?_, fun x hx => ?_, ?_, fun d hd => ?_, fun b o => ?_,
    he.pool.slipKeeps.trans (slipKeeps_loadRx _ _ _), ?_, ?_⟩⟩
  · rw [State.slip_congr (s := s) he.pool.slf]
  · exact (sameSlipBut_setSlip (s := s.takeSpare.2) hc d hd hne).trans (State.slip_congr he.pool.slf d)
  · rw [State.loadRx, State.setLoc_buf_same (s := s.takeSpare.2.setSlip c.toNat _) hlt, State.setSlip_buf, hbuf]
  · rw [State.loadRx, State.setLoc_buf_ne hx, State.setSlip_buf, hframe x hx]
  · rw [hloaded, he.chainList_same hs]
  · rw [hloaded, he.sameChainsBut hs d hd]
  · exact State.readByte_congr (s := s) he.pool.mem (by simp) b o
  · rw [State.loadRx_slf_length, he.pool.slf]
  · exact (s.takeSpare.2.setSlip c.toNat _).setBuf_bufs_length f _ |>.trans he.pool.bufs_length

/-! #### SLIP_RX of a byte other than END -/

variable (hc : s.build.hasChannel c)
include hc

theorem exec_slipRx_held (hx : x ≠ 0xC0) (hb : (s.slip c.toNat).rxbuf ≠ NONE) :
    exec (.slipRx c x) s = (s.rxByte c (s.slip c.toNat).rxbuf x).done 0x40 0 0 := by
  rw [← slipStore_answer]
  exact (check_passed hc).trans ((if_neg hx).trans (if_neg hb))

theorem exec_slipRx_first (hx : x ≠ 0xC0) (hb : (s.slip c.toNat).rxbuf = NONE) (hspare : s.takeSpare.1 = f) (hf : f ≠ NONE) :
    exec (.slipRx c x) s = ((s.takeSpare.2.loadRx c.toNat f).rxByte c f x).done 0x40 0 0 := by
  rw [← slipStore_answer, ← hspare]
  exact (check_passed hc).trans ((if_neg hx).trans ((if_pos hb).trans (if_neg (hspare ▸ hf))))

theorem exec_slipRx_stall (hx : x ≠ 0xC0) (hb : (s.slip c.toNat).rxbuf = NONE) (hspare : s.takeSpare.1 = NONE) :
    exec (.slipRx c x) s = s.done 0x40 1 0 :=
  (check_passed hc).trans ((if_neg hx).trans ((if_pos hb).trans (if_pos hspare)))

end

/-- Settles O41. -/
theorem slipRxDecodesAByte : Obligations.SlipRxDecodesAByte := by
  intro s c x hsound hx
  have hs := chainsSound_of_sound hsound
  obtain ⟨-, hpool⟩ := sound_iff.1 hsound
  refine ⟨fun h => if_pos h, fun hc => ?_⟩
  have hi := slip_index_lt hsound.1 hc
  refine ⟨fun hb hnil => ?stall, fun hb hdata => ?escape, fun hb hdata hfull => ?full, fun hb hdata hroom => ?stored,
    fun hb f l hspare => ?first⟩
  case stall => exact answers_report.of_eq (exec_slipRx_stall hc hx hb (by rw [hs.takeSpare_nil hnil]))
  case escape =>
    refine Answers.of_eq ?_ (exec_slipRx_held hc hx hb)
    rw [rxByte_escape hdata]
    exact answers_setSlip hc.1 hi
  case full =>
    refine Answers.of_eq ?_ (exec_slipRx_held hc hx hb)
    rw [rxByte_full hdata hfull]
    exact answers_setSlip hc.1 hi
  case stored =>
    obtain ⟨hbuf, -⟩ := hpool.rxbuf hi hb
    have h := rxByte_stored hc.1 hi (hs.lt_bufs_length hbuf) hdata hroom
    have hkeeps := slipKeeps_rxByte s c (s.slip c.toNat).rxbuf x
    refine Answers.of_eq ?_ (exec_slipRx_held hc hx hb)
    generalize s.rxByte c (s.slip c.toNat).rxbuf x = t at h hkeeps ⊢
    exact answers_done ⟨reports_finish hkeeps.regs, h.slip, h.slips, h.byte, sameDataBut_finish h.data, h.buf,
      sameBufsBut_finish h.bufs, h.chains, hkeeps.setting, hkeeps.csa, hkeeps.conns⟩
  case first =>
    obtain ⟨hhandle, hf, hload⟩ := rxLoaded hs hc.1 hi hspare
    have hkeeps := hload.keeps.trans (slipKeeps_rxByte _ c f x)
    refine Answers.of_eq ?_ (exec_slipRx_first hc hx hb hhandle (hs.ne_none hf))
    generalize s.takeSpare.2.loadRx c.toNat f = u at hload hkeeps ⊢
    have hiu : c.toNat - 1 < u.slf.length := hload.slfLength ▸ hi
    have hlen : (u.buf f).len.toNat = 0 := by rw [hload.buf]; rfl
    by_cases hdata : (s.slip c.toNat).isData x
    · have hcap : (u.buf f).len.toNat ≠ u.build.bufCap := by
        obtain ⟨⟨-, ⟨hcap, -⟩, -⟩, -⟩ := hsound.1
        rw [hlen, hload.keeps.setting.1]
        omega
      have hdata' : (u.slip c.toNat).isData x := by rwa [hload.slip]
      have hdecoded : (u.slip c.toNat).decoded x = (s.slip c.toNat).decoded x := by rw [hload.slip]; rfl
      have h := rxByte_stored hc.1 hiu (hload.bufsLength ▸ hs.lt_bufs_length hf) hdata' hcap
      rw [hdecoded] at h
      have hchains := h.chainList (slipKeeps_rxByte u c f x).setting.1
      have hisData : (s.slip c.toNat).rxesc = true ∨ x ≠ 0xDB := hdata
      generalize u.rxByte c f x = t at h hchains hkeeps ⊢
      refine answers_done ⟨reports_finish hkeeps.regs, ?_, fun d hd hne => ?_, ?_, fun d hd => ?_, ?_, fun y hy => ?_,
        fun _ => hlen ▸ h.byte, ?_, hkeeps.setting, hkeeps.csa, hkeeps.conns⟩
      · rw [decide_eq_false (not_not.2 hisData)]
        exact h.slip.trans (by rw [hload.slip])
      · exact (h.slips d hd hne).trans (hload.slips d hd hne)
      · rw [State.finish_chainList, hchains, hload.spare]
      · rw [State.finish_chainList, hchains, hload.chains d hd]
      · rw [State.finish_buf, h.buf, hload.buf, if_pos hisData]
        rfl
      · rw [State.finish_buf, h.bufs y hy, hload.bufs y hy]
      · rw [if_pos hisData]
        exact fun y o ho hout => (h.data y o ho (hlen ▸ hout)).trans (hload.data y o)
    · have hdata' : ¬ (u.slip c.toNat).isData x := by rwa [hload.slip]
      have hesc : ¬ ((s.slip c.toNat).rxesc = true ∨ x ≠ 0xDB) := hdata
      rw [rxByte_escape hdata'] at hkeeps ⊢
      have hslip := u.slip_setSlip_same c.toNat (fun z => { z with rxesc := true }) hiu
      refine answers_done ⟨reports_finish hkeeps.regs, ?_, fun d hd hne => ?_, ?_, fun d hd => ?_, ?_, fun y hy => ?_,
        fun h => absurd h hesc, fun y o _ _ => hload.data y o, hkeeps.setting, hkeeps.csa, hkeeps.conns⟩
      · rw [decide_eq_true hesc]
        exact hslip.trans (by rw [hload.slip])
      · exact (sameSlipBut_setSlip hc.1 d hd hne).trans (hload.slips d hd hne)
      · rw [State.finish_chainList, State.setSlip_chainList, hload.spare]
      · rw [State.finish_chainList, State.setSlip_chainList, hload.chains d hd]
      · rw [State.finish_buf, State.setSlip_buf, hload.buf, if_neg hesc]
      · rw [State.finish_buf, State.setSlip_buf, hload.bufs y hy]

end Sys2Proof.Machine

/-! ### SLIP_RX of END (43_slip.md R221, R222, R224) -/

namespace Sys2Proof.Machine

section
variable {s t : State} {c : Byte} {b f : Handle} {l : List Handle}

/-- The END drops what has been received (R221, R224). -/
def State.rxDrops (s : State) (c : Nat) (b : Handle) : Prop :=
  (s.slip c).rxovf = true ∨ (s.slip c).rxesc = true ∨ (s.buf b).len = 0

/-- A frame received in buffer `b` of channel `c` queued on PENDING, and the spare `f` in its place. -/
structure RxQueued (s t : State) (c : Byte) (b f : Handle) (l : List Handle) : Prop where
  slip : t.slip c.toNat = { s.slip c.toNat with rxbuf := f }
  slips : SameSlipBut s t c.toNat
  spare : t.chainList SPARE = l
  pending : t.chainList PENDING = s.chainList PENDING ++ [b]
  chains : SameChainsBut s t [SPARE, PENDING]
  buf : t.buf b = { s.buf b with chan := c.setWidth 4, next := NONE, loc := .chain PENDING }
  fresh : t.buf f = { s.buf f with len := 0, chan := 0, next := NONE, loc := .hold }
  tags : SameTagsBut s t [b, f]
  data : SameData s t
  keeps : SlipKeeps s t

/-- The buffer's tag written and the buffer taken out of its holder. -/
theorem ChainsSound.unhold (hs : ChainsSound s) (hb : s.build.hasBuffer b) (hloc : (s.buf b).loc = .hold) (ch : BitVec 4) :
    ChainsSound (s.setBuf b fun y => { y with chan := ch, loc := .off }) ∧
      (∀ d, (s.setBuf b fun y => { y with chan := ch, loc := .off }).chainList d = s.chainList d) := by
  have hlt := hs.lt_bufs_length hb
  have hset : s.setBuf b (fun y => { y with chan := ch, loc := .off }) = (s.setBuf b fun y => { y with chan := ch }).setLoc b .off := by
    simp only [State.setBuf, State.setLoc, List.modify_modify_eq]
    rfl
  have hbuf := s.buf_setBuf_same b (fun y => { y with chan := ch }) hlt
  have hplace (x : Handle) : ((s.setBuf b fun y => { y with chan := ch }).buf x).next = (s.buf x).next ∧
      ((s.setBuf b fun y => { y with chan := ch }).buf x).loc = (s.buf x).loc := by
    by_cases hx : x = b
    · rw [hx, hbuf]
      exact ⟨rfl, rfl⟩
    · rw [s.buf_setBuf_ne _ hx]
      exact ⟨rfl, rfl⟩
  have htag : ChainsSound (s.setBuf b fun y => { y with chan := ch }) :=
    hs.congr rfl (s.setBuf_bufs_length b _) rfl (fun x => (hplace x).1) fun x => (hplace x).2
  rw [hset]
  refine ⟨htag.setLoc hb (by simp [hbuf, hloc]) (by simp), fun d => ?_⟩
  rw [State.setLoc_chainList (by rwa [s.setBuf_bufs_length])]
  exact State.chainList_congr_next (s := s) (t := s.setBuf b fun y => { y with chan := ch }) rfl (fun x => (hplace x).1) rfl d

theorem rxQueued (hs : ChainsSound s) (hc : 1 ≤ c.toNat) (hi : c.toNat - 1 < s.slf.length) (hb : s.build.hasBuffer b)
    (hloc : (s.buf b).loc = .hold) (h : s.chainList SPARE = f :: l) : RxQueued s (s.takeSpare.2.rxQueue c b f) c b f l := by
  obtain ⟨-, hbuff, hframe, he⟩ := hs.takeSpare_cons h
  have hspare := (hs.holds SPARE (spare_lt s)).loc_eq (h ▸ List.mem_cons_self : f ∈ _)
  have hf := (hs.holds SPARE (spare_lt s)).hasBuffer f (h ▸ List.mem_cons_self)
  have hbf : b ≠ f := fun e => by rw [e, hspare] at hloc; cases hloc
  have hu := he.chainsSound hs
  have hkeepsu := he.pool.slipKeeps
  have hmem := he.pool.mem
  have hslf := he.pool.slf
  have hbu : s.takeSpare.2.build.hasBuffer b := he.pool.build ▸ hb
  have hlistu := he.chainList_same hs
  have hothersu := he.sameChainsBut hs
  have hfu : s.takeSpare.2.build.hasBuffer f := he.pool.build ▸ hf
  have hbufb := hframe b hbf
  generalize s.takeSpare.2 = u at hbuff hframe hu hkeepsu hmem hslf hbu hlistu hothersu hfu hbufb ⊢
  obtain ⟨hv, hvlist⟩ := hu.unhold hbu (by rw [hbufb, hloc]) (c.setWidth 4)
  have hltb := hu.lt_bufs_length hbu
  have hvbuf := u.buf_setBuf_same b (fun y => { y with chan := c.setWidth 4, loc := .off }) hltb
  have hvne {x : Handle} (hx : x ≠ b) := u.buf_setBuf_ne (fun y => { y with chan := c.setWidth 4, loc := .off }) hx
  have hvkeeps : SlipKeeps u (u.setBuf b fun y => { y with chan := c.setWidth 4, loc := .off }) :=
    ((PoolEdit.refl u).setBuf b _).slipKeeps
  rw [State.rxQueue]
  have hvmem : (u.setBuf b fun y => { y with chan := c.setWidth 4, loc := .off }).mem = u.mem := rfl
  have hvslf : (u.setBuf b fun y => { y with chan := c.setWidth 4, loc := .off }).slf = u.slf := rfl
  have hvdraw : (u.setBuf b fun y => { y with chan := c.setWidth 4, loc := .off }).draw = u.draw := rfl
  generalize (u.setBuf b fun y => { y with chan := c.setWidth 4, loc := .off }) = v at hv hvlist hvbuf hvne hvkeeps hvmem hvslf hvdraw ⊢
  have hbv : v.build.hasBuffer b := hvkeeps.setting.1 ▸ hbu
  have hfv : v.build.hasBuffer f := hvkeeps.setting.1 ▸ hfu
  have hpending : PENDING < 3 + v.build.nchan := Nat.lt_add_right _ (by decide)
  have hfree (d : Nat) : (v.buf b).loc ≠ .chain d := by simp [hvbuf]
  have he' := hv.pushTail_edit hpending hbv hfree
  have hw := he'.chainsSound hv
  have hwb := v.pushTail_buf_same PENDING (hv.lt_bufs_length hbv) (hv.tail_ne hpending hbv (hfree _)).symm
  have hfvbuf : v.buf f = { s.buf f with len := 0, chan := 0, next := NONE, loc := .off } := by rw [hvne hbf.symm, hbuff]
  have hwf : (v.pushTail PENDING b).buf f = v.buf f := he'.buf_ne f hbf.symm (by simp [hfvbuf])
  have hpool := he'.pool
  generalize v.pushTail PENDING b = w at he' hw hwb hwf hpool ⊢
  have hfw : f.toNat < w.bufs.length := hw.lt_bufs_length (hpool.build ▸ hfv)
  have hiw : c.toNat - 1 < w.slf.length := by rwa [hpool.slf, hvslf, hslf]
  have hloaded (d : Nat) : (w.loadRx c.toNat f).chainList d = w.chainList d :=
    (State.setLoc_chainList (s := w.setSlip c.toNat _) hfw d).trans (State.setSlip_chainList d)
  have hslip := w.slip_setSlip_same c.toNat (fun z => { z with rxbuf := f }) hiw
  have hwslip (d : Nat) : w.slip d = s.slip d := by
    rw [State.slip_congr hpool.slf, State.slip_congr hvslf, State.slip_congr hslf]
  have hne {x : Handle} (hx : x ≠ f) : (w.loadRx c.toNat f).buf x = w.buf x :=
    (State.setLoc_buf_ne (s := w.setSlip c.toNat _) hx).trans (State.setSlip_buf x)
  have hkeeps := ((hkeepsu.trans hvkeeps).trans hpool.slipKeeps).trans (slipKeeps_loadRx w c.toNat f)
  refine ⟨hslip.trans (by rw [hwslip]), fun d hd hdc => ?slips, ?spare, ?pending, fun d hd => ?chains, ?buf, ?fresh, fun x hx => ?tags,
    fun x o => ?data, hkeeps⟩
  case slips => exact (sameSlipBut_setSlip (s := w) hc d hd hdc).trans (hwslip d)
  case spare => rw [hloaded, he'.chainList_ne hv (by decide), hvlist, hlistu]
  case pending => rw [hloaded, he'.chainList_same hv, hvlist, hothersu _ (by decide)]
  case chains =>
    obtain ⟨hspare, hpend⟩ : d ≠ SPARE ∧ d ≠ PENDING := by simpa using hd
    rw [hloaded, he'.chainList_ne hv hpend, hvlist, hothersu d (by simpa using hspare)]
  case buf => rw [hne hbf, hwb, hvbuf, hbufb]
  case fresh =>
    rw [State.loadRx, State.setLoc_buf_same (s := w.setSlip c.toNat _) hfw, State.setSlip_buf, hwf, hfvbuf]
  case tags =>
    obtain ⟨hxb, hxf⟩ : x ≠ b ∧ x ≠ f := by simpa using hx
    rw [hne hxf, he'.tags x hxb, hvne hxb, hframe x hxf]
    exact ⟨rfl, rfl, rfl, rfl⟩
  case data =>
    refine State.readByte_congr (s := s) ?_ hkeeps.setting.2.1 x o
    change w.mem = s.mem
    rw [hpool.mem, hvmem, hmem]

/-! #### The statement -/

variable (hc : s.build.hasChannel c)
include hc

theorem exec_slipRx_end_idle (hb : (s.slip c.toNat).rxbuf = NONE) :
    exec (.slipRx c 0xC0) s = (s.setSlip c.toNat fun z => { z with rxesc := false, rxovf := false }).done 0x40 0 0 :=
  (check_passed hc).trans (if_pos hb)

theorem exec_slipRx_end_drop (hb : (s.slip c.toNat).rxbuf ≠ NONE) (h : s.rxDrops c.toNat (s.slip c.toNat).rxbuf) :
    exec (.slipRx c 0xC0) s = (s.rxDrop c.toNat (s.slip c.toNat).rxbuf).done 0x40 0
      (if (s.slip c.toNat).rxovf = true ∨ (s.slip c.toNat).rxesc = true then 2 else 0) :=
  (check_passed hc).trans ((if_neg hb).trans (if_pos h))

theorem exec_slipRx_end_stall (hb : (s.slip c.toNat).rxbuf ≠ NONE) (h : ¬ s.rxDrops c.toNat (s.slip c.toNat).rxbuf)
    (hspare : s.takeSpare.1 = NONE) : exec (.slipRx c 0xC0) s = s.done 0x40 1 0 :=
  (check_passed hc).trans ((if_neg hb).trans ((if_neg h).trans (if_pos hspare)))

theorem exec_slipRx_end_queue (hb : (s.slip c.toNat).rxbuf ≠ NONE) (h : ¬ s.rxDrops c.toNat (s.slip c.toNat).rxbuf)
    (hspare : s.takeSpare.1 = f) (hf : f ≠ NONE) :
    exec (.slipRx c 0xC0) s = (s.takeSpare.2.rxQueue c (s.slip c.toNat).rxbuf f).done 0x40 0 1 := by
  rw [← hspare]
  exact (check_passed hc).trans ((if_neg hb).trans ((if_neg h).trans (if_neg (hspare ▸ hf))))

end

/-- Settles O42. -/
theorem slipRxEndsAFrame : Obligations.SlipRxEndsAFrame := by
  intro s c hsound hc
  have hs := chainsSound_of_sound hsound
  have hi := slip_index_lt hsound.1 hc
  obtain ⟨-, hpool⟩ := sound_iff.1 hsound
  refine ⟨fun hb => ?idle, fun hb hdrop => ?drop, fun hb hdrop f l hspare => ?queue, fun hb hdrop hnil => ?stall⟩
  case idle => exact (answers_setSlip hc.1 hi).of_eq (exec_slipRx_end_idle hc hb)
  case drop =>
    obtain ⟨hbuf, -⟩ := hpool.rxbuf hi hb
    have hlt := hs.lt_bufs_length hbuf
    have hset := s.buf_setBuf_same _ (fun y => { y with len := 0 }) hlt
    refine Answers.of_eq ?_ (exec_slipRx_end_drop hc hb hdrop)
    exact answers_done ⟨reports_finish rfl, (s.setBuf _ _).slip_setSlip_same c.toNat _ hi, sameSlipBut_setSlip (s := s.setBuf _ _) hc.1,
      hset, fun x hx => s.buf_setBuf_ne _ hx, rfl, fun _ _ => rfl, ⟨rfl, rfl, rfl, rfl⟩, rfl, rfl⟩
  case queue =>
    obtain ⟨hbuf, hloc, -⟩ := hpool.rxbuf hi hb
    obtain ⟨hhandle, hf, -⟩ := rxLoaded hs hc.1 hi hspare
    have h := rxQueued hs hc.1 hi hbuf hloc hspare
    refine Answers.of_eq ?_ (exec_slipRx_end_queue hc hb hdrop hhandle (hs.ne_none hf))
    generalize s.takeSpare.2.rxQueue c (s.slip c.toNat).rxbuf f = t at h ⊢
    exact answers_done ⟨reports_finish h.keeps.regs, h.slip, h.slips, (t.finish_chainList _).trans h.spare,
      (t.finish_chainList _).trans h.pending, sameChainsBut_finish h.chains, h.buf, h.fresh, sameTagsBut_finish h.tags, h.data,
      h.keeps.setting, h.keeps.csa, h.keeps.conns⟩
  case stall => exact answers_report.of_eq (exec_slipRx_end_stall hc hb hdrop (by rw [hs.takeSpare_nil hnil]))

end Sys2Proof.Machine

/-! ### Whole frames on the wire (43_slip.md R220, R225 to R227, R229) -/

namespace Sys2Proof.Machine

/-- The bytes that stand for data byte `y` on the wire (R220). -/
def slipEncode (y : Byte) : List Byte :=
  if y = slipEnd then [slipEsc, slipEscEnd] else if y = slipEsc then [slipEsc, slipEscEsc] else [y]

theorem slipWire_nil : slipWire [] = [] := rfl

theorem slipWire_cons (y : Byte) (d : List Byte) : slipWire (y :: d) = slipEncode y ++ slipWire d := rfl

section
variable {s t u : State} {c x y : Byte} {b f : Handle} {d e : List Byte} {spare pending : List Handle} {esc : Bool}

/-! #### Receiving -/

theorem feed_cons (h : exec (.slipRx c x) s = .next t) (hres : t.regs.res0 = 0) (xs : List Byte) :
    s.feed c (x :: xs) = t.feed c xs := by
  rw [State.feed, h]
  exact if_pos hres

/-- Channel `c` is receiving into buffer `f`, which holds the bytes `d` so far. -/
structure Receiving (s : State) (c : Byte) (f : Handle) (spare pending : List Handle) (d : List Byte) (esc : Bool) : Prop where
  sound : s.sound
  chan : s.build.hasChannel c
  rxbuf : (s.slip c.toNat).rxbuf = f
  buffer : f ≠ NONE
  rxesc : (s.slip c.toNat).rxesc = esc
  rxovf : (s.slip c.toNat).rxovf = false
  spares : s.chainList SPARE = spare
  queued : s.chainList PENDING = pending
  packet : s.packet f = d

theorem packet_append (hlen : (t.buf b).len.toNat = (s.buf b).len.toNat + 1) (hbyte : t.readByte b (s.buf b).len.toNat = y)
    (hdata : SameDataBut s t b (s.buf b).len.toNat 1) : t.packet b = s.packet b ++ [y] := by
  have hlt := (t.buf b).len.isLt
  rw [State.packet, hlen, State.readBytes, List.range_succ, List.map_append, List.map_singleton, Nat.zero_add, hbyte, State.packet,
    State.readBytes]
  congr 1
  refine List.map_congr_left fun i hi => hdata b _ ?_ ?_
  · have := List.mem_range.1 hi
    omega
  · have := List.mem_range.1 hi
    omega

/-- A data byte is added to what has been received. -/
theorem Receiving.byte (h : Receiving s c f spare pending d esc) (hx : x ≠ 0xC0) (hdata : esc = true ∨ x ≠ 0xDB)
    (hroom : d.length < s.build.bufCap) :
    ∃ t, (∀ xs, s.feed c (x :: xs) = t.feed c xs) ∧ t.build = s.build ∧
      Receiving t c f spare pending (d ++ [(s.slip c.toNat).decoded x]) false := by
  have hlen : (s.buf f).len.toNat = d.length := by rw [← h.packet, length_packet]
  have hfit := (s.buf f).len.isLt
  obtain ⟨⟨⟨-, ⟨-, hcap⟩, -⟩, -⟩, -⟩ := h.sound
  obtain ⟨-, hbytes⟩ := slipRxDecodesAByte s c x h.sound hx
  obtain ⟨-, -, -, hstore, -⟩ := hbytes h.chan
  obtain ⟨t, hexec, hreports, hslip, -, hbyte, hdataBut, hbuf, hbufs, hchains, hsetting, -, -⟩ :=
    hstore (h.rxbuf ▸ h.buffer) (h.rxesc ▸ hdata) (by rw [h.rxbuf]; omega)
  rw [h.rxbuf] at hbyte hdataBut hbuf hbufs
  have hres : t.regs.res0 = 0 := by rw [hreports]
  have hlist (d : Nat) : t.chainList d = s.chainList d := by
    refine State.chainList_congr_next hsetting.1 (fun y => ?_) hchains d
    by_cases hy : y = f
    · rw [hy, hbuf]
    · rw [hbufs y hy]
  refine ⟨t, feed_cons hexec hres, hsetting.1, exec_sound h.sound hexec, hsetting.1 ▸ h.chan, ?_, h.buffer, ?_, ?_,
    (hlist _).trans h.spares, (hlist _).trans h.queued, ?_⟩
  · rw [hslip]; exact h.rxbuf
  · rw [hslip]
  · rw [hslip]; exact h.rxovf
  · rw [← h.packet]
    refine packet_append ?_ hbyte hdataBut
    rw [hbuf, BitVec.toNat_add, Nat.mod_eq_of_lt]
    · rfl
    · change (s.buf f).len.toNat + 1 < 65536
      omega

/-- The escape byte is noted. -/
theorem Receiving.escape (h : Receiving s c f spare pending d false) :
    ∃ t, (∀ xs, s.feed c (slipEsc :: xs) = t.feed c xs) ∧ t.build = s.build ∧ Receiving t c f spare pending d true := by
  obtain ⟨-, hbytes⟩ := slipRxDecodesAByte s c slipEsc h.sound (by decide)
  obtain ⟨-, hescape, -⟩ := hbytes h.chan
  obtain ⟨t, hexec, hreports, hslip, -, ⟨hbufs, hchains⟩, hdata, hsetting, -, -⟩ :=
    hescape (h.rxbuf ▸ h.buffer) (by simp [h.rxesc])
  have hres : t.regs.res0 = 0 := by rw [hreports]
  refine ⟨t, feed_cons hexec hres, hsetting.1, exec_sound h.sound hexec, hsetting.1 ▸ h.chan, ?_, h.buffer, ?_, ?_, ?_, ?_, ?_⟩
  · rw [hslip]; exact h.rxbuf
  · rw [hslip]
  · rw [hslip]; exact h.rxovf
  · rw [State.chainList_congr hsetting.1 hbufs hchains]; exact h.spares
  · rw [State.chainList_congr hsetting.1 hbufs hchains]; exact h.queued
  · rw [← h.packet, State.packet, State.packet, State.buf_congr hbufs]
    exact List.map_congr_left fun i _ => hdata f _

/-- The bytes that stand for one data byte add it to what has been received. -/
theorem Receiving.encoded (h : Receiving s c f spare pending d false) (y : Byte) (hroom : d.length < s.build.bufCap) :
    ∃ t, (∀ xs, s.feed c (slipEncode y ++ xs) = t.feed c xs) ∧ t.build = s.build ∧ Receiving t c f spare pending (d ++ [y]) false := by
  have hescaped (x : Byte) (hx : x ≠ 0xC0) (hdecoded : ∀ z : SlipChan, z.rxesc = true → z.decoded x = y) :
      ∃ t, (∀ xs, s.feed c ([slipEsc, x] ++ xs) = t.feed c xs) ∧ t.build = s.build ∧
        Receiving t c f spare pending (d ++ [y]) false := by
    obtain ⟨t, hfeed, hbuild, ht⟩ := h.escape
    obtain ⟨u, hfeed', hbuild', hu⟩ := ht.byte hx (.inl rfl) (hbuild ▸ hroom)
    rw [hdecoded _ ht.rxesc] at hu
    exact ⟨u, fun xs => (hfeed _).trans (hfeed' xs), hbuild'.trans hbuild, hu⟩
  unfold slipEncode
  split_ifs with hend hesc
  · exact hescaped _ (by decide) fun z hz => by rw [hend, SlipChan.decoded, if_pos ⟨hz, rfl⟩]
  · exact hescaped _ (by decide) fun z hz => by
      rw [hesc, SlipChan.decoded, if_neg (by simp), if_pos ⟨hz, rfl⟩]
  · obtain ⟨t, hfeed, hbuild, ht⟩ := h.byte (x := y) hend (.inr hesc) hroom
    have hdecoded : (s.slip c.toNat).decoded y = y := by simp [SlipChan.decoded, h.rxesc]
    exact ⟨t, hfeed, hbuild, hdecoded ▸ ht⟩

theorem Receiving.wire (h : Receiving s c f spare pending d false) (hroom : d.length + e.length ≤ s.build.bufCap) :
    ∃ t, (∀ xs, s.feed c (slipWire e ++ xs) = t.feed c xs) ∧ t.build = s.build ∧ Receiving t c f spare pending (d ++ e) false := by
  induction e generalizing s d with
  | nil => exact ⟨s, fun _ => rfl, rfl, (List.append_nil d).symm ▸ h⟩
  | cons y e ih =>
    rw [List.length_cons] at hroom
    obtain ⟨t, hfeed, hbuild, ht⟩ := h.encoded y (by omega)
    obtain ⟨u, hfeed', hbuild', hu⟩ := ih ht (by rw [List.length_append, List.length_singleton, hbuild]; omega)
    refine ⟨u, fun xs => ?_, hbuild'.trans hbuild, ?_⟩
    · rw [slipWire_cons, List.append_assoc, hfeed, hfeed']
    · rwa [List.append_assoc] at hu

/-- Taking the first byte of a frame is taking a spare and then the byte. -/
theorem receiving_start {l : List Handle} (hs : s.sound) (hc : s.build.hasChannel c) (hidle : (s.slip c.toNat).rxbuf = NONE)
    (hesc : (s.slip c.toNat).rxesc = false) (hovf : (s.slip c.toNat).rxovf = false) (hspare : s.chainList SPARE = f :: l) :
    ∃ u, (∀ x xs, x ≠ 0xC0 → s.feed c (x :: xs) = u.feed c (x :: xs)) ∧ u.build = s.build ∧
      Receiving u c f l (s.chainList PENDING) [] false := by
  have hchains := chainsSound_of_sound hs
  obtain ⟨hbounded, hpool⟩ := sound_iff.1 hs
  have hi := slip_index_lt hs.1 hc
  obtain ⟨hhandle, hf, hload⟩ := rxLoaded hchains hc.1 hi hspare
  have hne := hchains.ne_none hf
  have hheld := hchains.takeSpare_held (hhandle ▸ hne)
  rw [hhandle] at hheld
  have hsound : (s.takeSpare.2.loadRx c.toNat f).sound := by
    refine sound_iff.2 ⟨hbounded.takeSpare.loadRx _ _, hpool.takeSpare.loadRx (by simpa using hi) ?_ ?_ hheld.2⟩
    · rw [State.slip_congr (s := s) (by simp), hidle]
    · rw [State.takeSpare_build]; exact hf
  have hexec (x : Byte) (hx : x ≠ 0xC0) := exec_slipRx_first hc hx hidle hhandle hne
  generalize s.takeSpare.2.loadRx c.toNat f = u at hload hsound hexec
  have hbuild := hload.keeps.setting.1
  have hcu : u.build.hasChannel c := hbuild ▸ hc
  have hrx : (u.slip c.toNat).rxbuf = f := by rw [hload.slip]
  refine ⟨u, fun x xs hx => ?_, hbuild, hsound, hcu, hrx, hne, ?_, ?_, hload.spare, hload.chains _ (by decide), ?_⟩
  · rw [State.feed, State.feed, hexec x hx, exec_slipRx_held hcu hx (hrx ▸ hne), hrx]
  · rw [hload.slip]; exact hesc
  · rw [hload.slip]; exact hovf
  · have hlen : (u.buf f).len.toNat = 0 := by rw [hload.buf]; rfl
    rw [State.packet, hlen]
    rfl

theorem slipEncode_head (y : Byte) : ∃ x xs, slipEncode y = x :: xs ∧ x ≠ 0xC0 := by
  unfold slipEncode
  split_ifs with hend hesc
  · exact ⟨_, _, rfl, by decide⟩
  · exact ⟨_, _, rfl, by decide⟩
  · exact ⟨_, _, rfl, hend⟩

end

/-- Settles O45: after the first byte has taken a spare, each data byte is one or two commands that add it to the buffer, and the END
queues the buffer. -/
theorem slipRxReceivesAWholeFrame : Obligations.SlipRxReceivesAWholeFrame := by
  intro s c d f g l hs hc hidle hesc hovf hpos hlen hspare
  obtain ⟨u, hfirst, hbuild, hu⟩ := receiving_start hs hc hidle hesc hovf hspare
  obtain ⟨v, hfeed, hbuild', hv⟩ := hu.wire (e := d) (by rw [hbuild]; simpa using hlen)
  rw [List.nil_append] at hv
  have hwire : s.feed c (slipWire d ++ [0xC0]) = v.feed c [0xC0] := by
    rw [← hfeed]
    match d, hpos with
    | y :: d, _ =>
      obtain ⟨x, xs, hx, hne⟩ := slipEncode_head y
      rw [slipWire_cons, hx]
      exact hfirst x _ hne
  have hvlen : (v.buf f).len.toNat = d.length := by rw [← length_packet, hv.packet]
  obtain ⟨-, -, hqueue, -⟩ := slipRxEndsAFrame v c hv.sound hv.chan
  rw [hv.rxbuf, hv.rxesc, hv.rxovf] at hqueue
  have hnonempty : (v.buf f).len ≠ 0 := fun e => by rw [e, BitVec.ofNat_eq_ofNat, BitVec.toNat_zero] at hvlen; omega
  obtain ⟨t, hexec, hreports, hslip, -, hspares, hqueued, -, hbuf, -, -, hdata, -⟩ :=
    hqueue hv.buffer (by simpa using hnonempty) g l hv.spares
  have hres : t.regs.res0 = 0 := by rw [hreports]
  refine ⟨t, ?_, exec_sound hv.sound hexec, by rw [hreports], hqueued.trans (by rw [hv.queued]), ?_, by rw [hbuf], by rw [hslip],
    hspares⟩
  · rw [hwire, feed_cons hexec hres]
    rfl
  · rw [← hv.packet, State.packet, State.packet, hbuf]
    exact List.map_congr_left fun i _ => hdata f _

end Sys2Proof.Machine

/-! ### A whole frame sent (43_slip.md R220, R225 to R227) -/

namespace Sys2Proof.Machine

/-- The word that SLIP_TX reports for a byte to send (R225). -/
def sentWord (x : Byte) : Word := BitVec.ofNat 32 (0x100 + x.toNat)

section
variable {s t u : State} {c y : Byte} {b : Handle} {d : List Byte} {n pos : Nat} {ph : TxPhase} {w : Word} {l : List Handle}

theorem drain_succ (h : exec (.slipTx c) s = .next t) (n : Nat) :
    s.drain c (n + 1) = (t.regs.res0 :: (t.drain c n).1, (t.drain c n).2) := by
  rw [State.drain, h]

/-- Channel `c` is sending buffer `b` and has come to byte `pos` in phase `ph`; pool and data are those of `s`. -/
structure Sending (s t : State) (c : Byte) (b : Handle) (pos : Nat) (ph : TxPhase) : Prop where
  sound : t.sound
  chan : t.build.hasChannel c
  txcur : (t.slip c.toNat).txcur = b
  txpos : (t.slip c.toNat).txpos.toNat = pos
  txph : (t.slip c.toNat).txph = ph
  build : t.build = s.build
  pool : SamePool s t
  data : SameData s t

/-- What a step that is not the last leaves. -/
theorem Sending.step (h : Sending s t c b pos ph) {r : Word} {z : SlipChan} {n : Nat} {ph' : TxPhase}
    (hz : z.txcur = b ∧ z.txpos.toNat = n ∧ z.txph = ph')
    (hstep : Answers (exec (.slipTx c) t) fun u =>
      Reports t u 0x41 r 0 ∧ u.slip c.toNat = z ∧ SameSlipBut t u c.toNat ∧ SamePool t u ∧ SameData t u ∧ SameSetting t u ∧
        u.csa = t.csa ∧ u.conns = t.conns) :
    ∃ u, (∀ i, t.drain c (i + 1) = (r :: (u.drain c i).1, (u.drain c i).2)) ∧ Sending s u c b n ph' := by
  obtain ⟨u, hexec, hreports, hslip, -, ⟨hbufs, hchains⟩, hdata, hsetting, -, -⟩ := hstep
  have hres : u.regs.res0 = r := by rw [hreports]
  obtain ⟨hcur, hpos, hph⟩ := hz
  exact ⟨u, fun i => hres ▸ drain_succ hexec i, exec_sound h.sound hexec, hsetting.1 ▸ h.chan, hslip ▸ hcur, hslip ▸ hpos, hslip ▸ hph,
    hsetting.1.trans h.build, ⟨hbufs.trans h.pool.1, hchains.trans h.pool.2⟩, fun x o => (hdata x o).trans (h.data x o)⟩

theorem Sending.buf (h : Sending s t c b pos ph) (x : Handle) : t.buf x = s.buf x := State.buf_congr h.pool.1 x

theorem toNat_add_one {x : Half} {n : Nat} (hx : x.toNat = n) (hn : n + 1 < 65536) : (x + 1).toNat = n + 1 := by
  rw [BitVec.toNat_add, hx]
  exact Nat.mod_eq_of_lt hn

/-- The byte at `pos` is sent as it is or escaped, and the channel comes to the next. -/
theorem Sending.encoded (h : Sending s t c b pos .data) (hlt : pos < (s.buf b).len.toNat) (hy : s.readByte b pos = y) :
    ∃ u, (∀ i, t.drain c (i + (slipEncode y).length) = ((slipEncode y).map sentWord ++ (u.drain c i).1, (u.drain c i).2)) ∧
      Sending s u c b (pos + 1) .data := by
  have hlen := (s.buf b).len.isLt
  obtain ⟨-, hsteps⟩ := slipTxGivesTheNextByte t c h.sound
  obtain ⟨-, -, -, -, -, hend, hesc, hplain, -⟩ := hsteps h.chan
  have hmore : (t.slip c.toNat).txpos ≠ (t.buf (t.slip c.toNat).txcur).len := by
    intro e
    rw [h.txcur, h.buf] at e
    have := h.txpos
    rw [e] at this
    omega
  have hread : t.readByte (t.slip c.toNat).txcur (t.slip c.toNat).txpos.toNat = y := by
    rw [h.txcur, h.txpos, h.data, hy]
  rw [hread] at hend hesc hplain
  have hnext : ((t.slip c.toNat).txpos + 1).toNat = pos + 1 := toNat_add_one h.txpos (by omega)
  unfold slipEncode
  split_ifs with hyend hyesc
  · obtain ⟨u, hu, hsend⟩ := h.step (n := pos) (ph' := .escDc) (z := { t.slip c.toNat with txph := .escDc })
      ⟨h.txcur, h.txpos, rfl⟩ (hend h.txph hmore hyend)
    obtain ⟨-, hsteps'⟩ := slipTxGivesTheNextByte u c hsend.sound
    obtain ⟨-, -, -, hsecond, -⟩ := hsteps' hsend.chan
    have hnext' : ((u.slip c.toNat).txpos + 1).toNat = pos + 1 := toNat_add_one hsend.txpos (by omega)
    obtain ⟨v, hv, hsend'⟩ := hsend.step (n := pos + 1) (ph' := .data)
      (z := { u.slip c.toNat with txpos := (u.slip c.toNat).txpos + 1, txph := .data }) ⟨hsend.txcur, hnext', rfl⟩ (hsecond hsend.txph)
    exact ⟨v, fun i => by rw [List.length_cons, List.length_singleton, ← Nat.add_assoc, hu, hv]; rfl, hsend'⟩
  · obtain ⟨u, hu, hsend⟩ := h.step (n := pos) (ph' := .escDd) (z := { t.slip c.toNat with txph := .escDd })
      ⟨h.txcur, h.txpos, rfl⟩ (hesc h.txph hmore hyesc)
    obtain ⟨-, hsteps'⟩ := slipTxGivesTheNextByte u c hsend.sound
    obtain ⟨-, -, -, -, hsecond, -⟩ := hsteps' hsend.chan
    have hnext' : ((u.slip c.toNat).txpos + 1).toNat = pos + 1 := toNat_add_one hsend.txpos (by omega)
    obtain ⟨v, hv, hsend'⟩ := hsend.step (n := pos + 1) (ph' := .data)
      (z := { u.slip c.toNat with txpos := (u.slip c.toNat).txpos + 1, txph := .data }) ⟨hsend.txcur, hnext', rfl⟩ (hsecond hsend.txph)
    exact ⟨v, fun i => by rw [List.length_cons, List.length_singleton, ← Nat.add_assoc, hu, hv]; rfl, hsend'⟩
  · obtain ⟨u, hu, hsend⟩ := h.step (n := pos + 1) (ph' := .data) (z := { t.slip c.toNat with txpos := (t.slip c.toNat).txpos + 1 })
      ⟨h.txcur, hnext, h.txph⟩ (hplain h.txph hmore hyend hyesc)
    exact ⟨u, fun i => by rw [List.length_singleton, hu]; rfl, hsend⟩

/-- All that is left of the packet is sent. -/
theorem Sending.wire (h : Sending s t c b pos .data) (hd : (s.packet b).drop pos = d) (hpos : pos ≤ (s.buf b).len.toNat) :
    ∃ u, (∀ i, t.drain c (i + (slipWire d).length) = ((slipWire d).map sentWord ++ (u.drain c i).1, (u.drain c i).2)) ∧
      Sending s u c b (s.buf b).len.toNat .data := by
  induction d generalizing t pos with
  | nil =>
    have hend : pos = (s.buf b).len.toNat := by
      have := List.drop_eq_nil_iff.1 hd
      rw [length_packet] at this
      omega
    exact ⟨t, fun _ => rfl, hend ▸ h⟩
  | cons y d ih =>
    have hlt : pos < (s.packet b).length := by
      by_contra hge
      rw [List.drop_eq_nil_of_le (Nat.not_lt.1 hge)] at hd
      cases hd
    obtain ⟨hy, hrest⟩ := List.cons.inj ((List.drop_eq_getElem_cons hlt).symm.trans hd)
    have hread : s.readByte b pos = y := by
      rw [← hy]
      simp [State.packet, State.readBytes]
    rw [length_packet] at hlt
    obtain ⟨u, hu, hsend⟩ := h.encoded hlt hread
    obtain ⟨v, hv, hsend'⟩ := ih hsend hrest hlt
    refine ⟨v, fun i => ?_, hsend'⟩
    rw [slipWire_cons, List.length_append, Nat.add_comm (slipEncode y).length, ← Nat.add_assoc, hu, hv, List.map_append,
      List.append_assoc]

/-! #### Releasing the buffer -/

/-- What the list of a chain becomes when a buffer that was on no chain is released. -/
theorem ReleasedTo.chainList_ne (h : ReleasedTo s t b) (hbuild : t.build = s.build) {k : Nat} (hk : k ≠ SPARE) :
    t.chainList k = s.chainList k := by
  obtain ⟨hbufs, hspare, hheld⟩ := h
  by_cases href : (s.buf b).ref = 0
  · exact (hspare href).2.1 k (by simpa using hk)
  · obtain ⟨hchains, hbuf⟩ := hheld href
    refine State.chainList_congr_next hbuild (fun y => ?_) hchains k
    by_cases hy : y = b
    · rw [hy, hbuf]
    · rw [hbufs y hy]

theorem ReleasedTo.retained (h : ReleasedTo s t b) (hbuild : t.build = s.build) (href : (s.buf b).ref ≠ 0) :
    t.chainList SPARE = s.chainList SPARE ∧ t.hostHeld b := by
  obtain ⟨hbufs, -, hheld⟩ := h
  obtain ⟨hchains, hbuf⟩ := hheld href
  refine ⟨State.chainList_congr_next hbuild (fun y => ?_) hchains _, by rw [State.hostHeld, hbuf]⟩
  by_cases hy : y = b
  · rw [hy, hbuf]
  · rw [hbufs y hy]

/-- The final END releases the buffer. -/
theorem Sending.last (h : Sending s t c b (s.buf b).len.toNat .data) :
    ∃ u, t.drain c 1 = ([0x3C0], u) ∧ u.sound ∧ u.build = t.build ∧ (u.slip c.toNat).txcur = NONE ∧ ReleasedTo t u b ∧ SameData t u := by
  obtain ⟨-, hsteps⟩ := slipTxGivesTheNextByte t c h.sound
  obtain ⟨-, -, -, -, -, -, -, -, hlast⟩ := hsteps h.chan
  have hend : (t.slip c.toNat).txpos = (t.buf (t.slip c.toNat).txcur).len := by
    rw [h.txcur, h.buf]
    exact BitVec.eq_of_toNat_eq h.txpos
  obtain ⟨u, hexec, hreports, hslip, -, hreleased, hdata, hsetting, -, -⟩ := hlast h.txph hend
  have hres : u.regs.res0 = 0x3C0 := by rw [hreports]
  exact ⟨u, by rw [drain_succ hexec 0, hres]; rfl, exec_sound h.sound hexec, hsetting.1, by rw [hslip], h.txcur ▸ hreleased, hdata⟩

/-- The head of TX(c) taken up as the frame to send, after its leading END if there is one. -/
theorem sending_start (hs : s.sound) (hc : s.build.hasChannel c) (hidle : (s.slip c.toNat).txcur = NONE)
    (hhead : s.chainList (2 + c.toNat) = b :: l) :
    ∃ u v, (∀ i, s.drain c (i + 1 + (if s.regs.cfg.getLsbD 12 then ([0xC0] : List Byte) else []).length) =
        ((if s.regs.cfg.getLsbD 12 then ([0xC0] : List Byte) else []).map sentWord ++ (v.drain c (i + 1)).1, (v.drain c (i + 1)).2)) ∧
      Sending u v c b 0 .data ∧ u.build = s.build ∧ u.chainList (2 + c.toNat) = l ∧ SameChainsBut s u [2 + c.toNat] ∧
      u.buf b = { s.buf b with next := NONE, loc := .hold } ∧ SameData s u := by
  obtain ⟨-, hsteps⟩ := slipTxGivesTheNextByte s c hs
  obtain ⟨-, hload, -⟩ := hsteps hc
  obtain ⟨u, hexec, husound, -, hslip, -, hlist, hothers, hbuf, -, hdata, hsetting, -, -⟩ := hload hidle b l hhead
  have hsame (i : Nat) : s.drain c (i + 1) = u.drain c (i + 1) := by
    obtain ⟨v, hv, -⟩ := soundCommandsComplete (.slipTx c) u husound
    rw [drain_succ (hexec.trans hv), drain_succ hv]
  have hcu : u.build.hasChannel c := hsetting.1 ▸ hc
  have hsend : Sending u u c b 0 (if s.regs.cfg.getLsbD 12 then .lead else .data) :=
    ⟨husound, hcu, by rw [hslip], by rw [hslip]; rfl, by rw [hslip], rfl, ⟨rfl, rfl⟩, fun _ _ => rfl⟩
  split_ifs at hsend ⊢ with hlead
  · obtain ⟨-, husteps⟩ := slipTxGivesTheNextByte u c husound
    obtain ⟨-, -, hleadStep, -⟩ := husteps hcu
    obtain ⟨v, hv, hsend'⟩ := hsend.step (n := 0) (ph' := .data) (z := { u.slip c.toNat with txph := .data })
      ⟨hsend.txcur, hsend.txpos, rfl⟩ (hleadStep hsend.txph)
    exact ⟨u, v, fun i => by rw [List.length_singleton, hsame, hv]; rfl, hsend', hsetting.1, hlist, hothers, hbuf, hdata⟩
  · exact ⟨u, u, fun i => hsame i, hsend, hsetting.1, hlist, hothers, hbuf, hdata⟩

end

/-- Settles O44. -/
theorem slipTxSendsAWholeFrame : Obligations.SlipTxSendsAWholeFrame := by
  intro s c b l hs hc hidle hhead
  obtain ⟨u, v, hlead, hsend, hbuild, hlist, hothers, hbuf, hdata⟩ := sending_start hs hc hidle hhead
  have hpacket : u.packet b = s.packet b := by
    rw [State.packet, State.packet, hbuf]
    exact List.map_congr_left fun i _ => hdata b _
  obtain ⟨w, hwire, hsend'⟩ := hsend.wire (d := s.packet b) hpacket (Nat.zero_le _)
  obtain ⟨r, hlast, hrsound, hrbuild, hcur, hreleased, hrdata⟩ := hsend'.last
  have hdrain : s.drain c (((if s.regs.cfg.getLsbD 12 then [0xC0] else []) ++ slipWire (s.packet b)).length + 1) =
      (((if s.regs.cfg.getLsbD 12 then [0xC0] else []) ++ slipWire (s.packet b)).map sentWord ++ [0x3C0], r) := by
    have hcount : ((if s.regs.cfg.getLsbD 12 then [0xC0] else []) ++ slipWire (s.packet b)).length + 1 =
        (slipWire (s.packet b)).length + 1 + (if s.regs.cfg.getLsbD 12 then [(0xC0 : Byte)] else []).length := by
      rw [List.length_append]; omega
    rw [hcount, hlead, Nat.add_comm (slipWire _).length, hwire, hlast, List.map_append, List.append_assoc]
  have hspare : SPARE ≠ 2 + c.toNat := by change 0 ≠ _; omega
  have hwlist (k : Nat) : w.chainList k = u.chainList k := State.chainList_congr hsend'.build hsend'.pool.1 hsend'.pool.2 k
  have href : (w.buf b).ref = (s.buf b).ref := by rw [hsend'.buf, hbuf]
  have hspares : w.chainList SPARE = s.chainList SPARE := (hwlist _).trans (hothers _ (by simpa using hspare))
  simp only [hdrain]
  refine ⟨rfl, hrsound, ?_, hcur, fun h => ?_, fun h => ?_, fun x o => ?_⟩
  · rw [hreleased.chainList_ne hrbuild (Ne.symm hspare), hwlist, hlist]
  · rw [(hreleased.2.1 (href.trans h)).1, hspares]
  · obtain ⟨hretained, hheld⟩ := hreleased.retained hrbuild (fun e => h (href.symm.trans e))
    exact ⟨hretained.trans hspares, hheld⟩
  · rw [hrdata, hsend'.data, hdata]

end Sys2Proof.Machine

/-! ### CONN_ACCEPT: which slot claims (44_connection.md R290, R291, R293, R299) -/

namespace Sys2Proof.Machine

section
variable {s t : State} {b : Handle} {k h n : Nat} {p : Byte} {c : Claim}

theorem byteAt_readBytes {o i m : Nat} (hi : i < m) : byteAt (s.readBytes b o m) i = s.readByte b (o + i) := by
  rw [byteAt, State.readBytes, List.getD_eq_getElem _ _ (by simpa using hi), List.getElem_map, List.getElem_range]

theorem be16At_readBytes {o i m : Nat} (hi : i + 1 < m) :
    be16At (s.readBytes b o m) i = be16 (s.readByte b (o + i)) (s.readByte b (o + i + 1)) := by
  rw [be16At, byteAt_readBytes (Nat.lt_of_succ_lt hi), byteAt_readBytes hi, Nat.add_assoc]

theorem segment_fl : (s.segment b h n).fl = s.readByte b (h + 13) :=
  byteAt_readBytes (i := 13) (m := 14) (by decide)

theorem hasFlag_iff {fl m : Byte} : hasFlag fl m = true ↔ fl &&& m ≠ 0 := bne_iff_ne

theorem hasFlag_eq_false {fl m : Byte} : hasFlag fl m = false ↔ fl &&& m = 0 := by
  rw [hasFlag, bne_eq_false_iff_eq]

theorem bareSyn_iff {fl : Byte} : bareSyn fl = true ↔ fl &&& 0x02 ≠ 0 ∧ fl &&& 0x15 = 0 := by
  rw [bareSyn, Bool.and_eq_true, Bool.not_eq_true', hasFlag_iff, hasFlag_eq_false]
  exact Iff.rfl

theorem claimProto_eq : claimProto p = if p = 6 then .tcp else .udp := rfl

/-- What a slot that admits the packet goes on with (R291). -/
theorem claim_of_admits (ha : s.admits k b p h) :
    s.claim k b p h n =
      if p = 6 then s.claimTcp k b (s.srcAddr b) (s.srcPort b h) (s.segment b h n) else some (s.claimUdp k b h n) := by
  obtain ⟨-, hproto, hport, hstate, hremote⟩ := ha
  have hsport : be16At (s.readBytes b h 4) 0 = s.srcPort b h := be16At_readBytes (by decide)
  have hdport : be16At (s.readBytes b h 4) 2 = s.dstPort b h := be16At_readBytes (by decide)
  have hsrc : ¬ ((s.conn k).rbound = true ∧ (s.srcAddr b ≠ addrBytes s.build.ipv (s.conn k).raddr ∨ s.srcPort b h ≠ (s.conn k).rport)) := by
    rintro ⟨hbound, hne⟩
    obtain ⟨haddr, hrport⟩ := hremote hbound
    exact hne.elim (· haddr) (· hrport)
  unfold State.claim
  simp only [hsport, hdport]
  rw [if_neg (by rw [hproto, claimProto_eq]; simp), if_neg (by rw [hport]; simp [hstate])]
  refine (if_neg hsrc).trans ?_
  split_ifs at hproto ⊢
  · rw [hproto]; rfl
  · rw [hproto]

/-- A slot whose checks the packet does not pass rejects it (R291). -/
theorem claim_of_not_admits (hreg : (s.conn k).reg = true) (ha : ¬ s.admits k b p h) : s.claim k b p h n = none := by
  have hsport : be16At (s.readBytes b h 4) 0 = s.srcPort b h := be16At_readBytes (by decide)
  have hdport : be16At (s.readBytes b h 4) 2 = s.dstPort b h := be16At_readBytes (by decide)
  unfold State.claim
  simp only [hsport, hdport]
  split_ifs with hproto hport hremote
  · rfl
  · rfl
  · rfl
  · refine absurd ⟨hreg, ?_, ?_, ?_, fun hbound => ?_⟩ ha
    · exact (not_not.1 hproto).trans claimProto_eq
    · exact (not_not.1 (not_or.1 hport).1).symm
    · exact (not_or.1 hport).2
    · have hsame := not_or.1 fun hne => hremote ⟨hbound, hne⟩
      exact ⟨not_not.1 hsame.1, not_not.1 hsame.2⟩

/-- A slot that does not claim the packet rejects it. -/
theorem claim_of_not_claims (hreg : (s.conn k).reg = true) (hc : ¬ s.claims k b p h) : s.claim k b p h n = none := by
  by_cases ha : s.admits k b p h
  · have hlisten : p = 6 ∧ (s.conn k).state = .listen ∧ bareSyn (s.readByte b (h + 13)) = false := by
      by_contra hne
      refine hc ⟨ha, fun hp hl => bareSyn_iff.1 ?_⟩
      by_contra hsyn
      exact hne ⟨hp, hl, Bool.eq_false_of_not_eq_true hsyn⟩
    obtain ⟨hp, hl, hsyn⟩ := hlisten
    rw [claim_of_admits ha, if_pos hp]
    unfold State.claimTcp
    dsimp only
    rw [segment_fl, hsyn, hl]
    split_ifs with hbound hmatch
    · exact hmatch.2.elim
    · rfl
    · rfl
  · exact claim_of_not_admits hreg ha

/-- In a sound state a slot that claims the packet does not reject it. -/
theorem claim_of_claims (hs : s.sound) (hc : s.claims k b p h) : ∃ r, s.claim k b p h n = some r := by
  obtain ⟨ha, hsyn⟩ := hc
  rw [claim_of_admits ha]
  split_ifs with hp
  · obtain ⟨-, hproto, -, hclosed, -⟩ := ha
    have hok := (bounded_of_sound hs).conn_ok k
    obtain ⟨-, -, -, hunbound, hbound, -⟩ := hok
    unfold State.claimTcp
    dsimp only
    by_cases hl : (s.conn k).state = .listen
    · rw [if_pos (hunbound hl), if_pos ⟨hl, by rw [segment_fl]; exact bareSyn_iff.2 (hsyn hp hl)⟩]
      exact ⟨_, rfl⟩
    · rw [if_neg (by rw [hbound (hproto.trans (if_pos hp)) hclosed hl]; decide)]
      cases hst : (s.conn k).state with
      | closed => exact absurd hst hclosed
      | listen => exact absurd hst hl
      | synSent | synRcvd | opened | closing => exact ⟨_, rfl⟩
  · exact ⟨_, rfl⟩

/-- A slot that is registered and does not reject the packet claims it. -/
theorem claims_of_claim (hreg : (s.conn k).reg = true) {r : Claim × State} (hr : s.claim k b p h n = some r) : s.claims k b p h := by
  by_contra hc
  rw [claim_of_not_claims hreg hc] at hr
  cases hr

theorem range_split (hk : k < n) : ∃ after, List.range n = List.range k ++ k :: after := by
  obtain ⟨m, rfl⟩ := Nat.exists_eq_add_of_lt hk
  exact ⟨_, by rw [Nat.add_assoc, List.range_add, List.range_succ_eq_map, List.map_cons]; rfl⟩

theorem eq_range_of_append {before after : List Nat} (e : List.range n = before ++ k :: after) : before = List.range k := by
  have hlen : before.length < n := by
    rw [← List.length_range (n := n), e, List.length_append, List.length_cons]
    omega
  have hk : k = before.length := by
    have hget : (List.range n)[before.length]? = some k := by rw [e]; simp
    rw [List.getElem?_range hlen] at hget
    exact (Option.some.inj hget).symm
  calc before = (List.range n).take before.length := by rw [e, List.take_left]
    _ = List.range k := by rw [List.take_range, hk, Nat.min_eq_left hlen.le]

/-- The offer to all slots ends at the one that claims (R290). -/
theorem offer_of_firstClaims (hf : s.firstClaims k b p h) {r : Claim × State} (hr : s.claim k b p h n = some r) :
    s.offer b p h n (List.range s.build.nconn) = some (k, r) := by
  obtain ⟨hk, ⟨⟨hreg, -⟩, -⟩, hbefore⟩ := hf
  obtain ⟨after, hafter⟩ := range_split hk
  refine (State.offer_eq_some _ _ _ _ _ _ _ _).2 ⟨_, after, hafter, hreg, hr, fun j hj hjreg => ?_⟩
  exact claim_of_not_claims hjreg (hbefore j (List.mem_range.1 hj))

/-! #### The command -/

theorem settle_eq (t : State) (b : Handle) (k : Nat) (c : Claim) :
    State.settle b (k, c, t) = (t.settled b c).done 0x59 (claimCode c) (natWord k) := by
  cases c <;> rfl

/-- CONN_ACCEPT past its checks, when some slot claims the buffer. -/
theorem exec_accept_some (hb : s.build.hasBuffer b) (hheld : s.hostHeld b) (hsniff : s.sniff b = .packet .okay p h n)
    (hoffer : s.offer b p h n (List.range s.build.nconn) = some (k, c, t)) :
    exec (.connAccept b) s = (t.settled b c).done 0x59 (claimCode c) (natWord k) := by
  refine (check_passed hb).trans ((check_passed hheld).trans ?_)
  rw [hsniff]
  dsimp only
  rw [hoffer]
  exact settle_eq t b k c

/-- CONN_ACCEPT past its checks, when no slot claims the buffer. -/
theorem exec_accept_none (hb : s.build.hasBuffer b) (hheld : s.hostHeld b)
    (hnone : ∀ p h n, s.sniff b = .packet .okay p h n → s.offer b p h n (List.range s.build.nconn) = none) :
    exec (.connAccept b) s = s.done 0x59 0 0 := by
  refine (check_passed hb).trans ((check_passed hheld).trans ?_)
  split
  · next p h n hsniff => rw [hnone p h n hsniff]
  · rfl

end

/-! #### A claim changes its own slot only -/

section
variable {s : State} {b : Handle} {k : Nat}

theorem slotEdit_setConn (s : State) (k : Nat) (f : Conn → Conn) : SlotEdit s (s.setConn k f) k :=
  (PoolEdit.refl s).slotEdit.setConn f

theorem releaseRetxOffered_slotEdit (s : State) (k : Nat) (b : Handle) : SlotEdit s (s.releaseRetxOffered k b) k := by
  by_cases h : (s.conn k).retx = b
  · rw [s.releaseRetxOffered_own k b h]
    exact (s.dropRef_poolEdit b).slotEdit.setConn _
  · rw [s.releaseRetxOffered_other k b h]
    exact s.releaseRetx_slotEdit k

theorem deliver_slotEdit (s : State) (k : Nat) (b : Handle) (poff plen : Nat) : SlotEdit s (s.deliver k b poff plen).2 k := by
  rcases s.deliver_cases k b poff plen with ⟨-, e⟩ | ⟨-, -, e⟩ | ⟨-, -, -, e⟩ | ⟨-, -, -, e⟩ <;> rw [e]
  · exact slotEdit_setConn s k _
  · exact (PoolEdit.refl s).slotEdit
  · exact (PoolEdit.refl s).slotEdit
  · exact (slotEdit_setConn s k _).trans ((PoolEdit.refl _).setBuf b _).slotEdit

theorem tcpOpenRx_slotEdit (s : State) (k : Nat) (b : Handle) (g : Segment) : SlotEdit s (s.tcpOpenRx k b g).2 k := by
  unfold State.tcpOpenRx
  dsimp only
  split_ifs
  · exact slotEdit_setConn s k _
  · exact slotEdit_setConn s k _
  · exact (PoolEdit.refl s).slotEdit
  · exact (PoolEdit.refl s).slotEdit
  · exact (slotEdit_setConn s k _).trans (deliver_slotEdit _ k b _ _)

theorem claimSynSent_slotEdit (s : State) (k : Nat) (b : Handle) (g : Segment) : SlotEdit s (s.claimSynSent k b g).2 k := by
  unfold State.claimSynSent
  dsimp only
  split_ifs
  · exact ((slotEdit_setConn s k _).trans (releaseRetxOffered_slotEdit _ k b)).setConn _
  · exact (PoolEdit.refl s).slotEdit

theorem claimSynRcvd_slotEdit (s : State) (k : Nat) (b : Handle) (g : Segment) : SlotEdit s (s.claimSynRcvd k b g).2 k := by
  unfold State.claimSynRcvd
  dsimp only
  split_ifs
  · exact (((slotEdit_setConn s k _).trans (releaseRetxOffered_slotEdit _ k b)).setConn _).trans (tcpOpenRx_slotEdit _ k b g)
  · exact slotEdit_setConn s k _

theorem claimTcp_slotEdit {src : List Byte} {sport : Half} {g : Segment} {r : Claim × State}
    (hr : s.claimTcp k b src sport g = some r) : SlotEdit s r.2 k := by
  unfold State.claimTcp at hr
  dsimp only at hr
  split_ifs at hr
  · cases hr
    exact slotEdit_setConn s k _
  · split at hr
    all_goals cases hr
    · exact claimSynSent_slotEdit s k b g
    · exact claimSynRcvd_slotEdit s k b g
    · exact tcpOpenRx_slotEdit s k b g
    · exact (PoolEdit.refl s).slotEdit

theorem claim_slotEdit {p : Byte} {h n : Nat} {r : Claim × State} (hr : s.claim k b p h n = some r) : SlotEdit s r.2 k := by
  unfold State.claim at hr
  dsimp only at hr
  split_ifs at hr
  split at hr
  · cases hr
    unfold State.claimUdp
    split
    · exact (PoolEdit.refl s).slotEdit
    · exact deliver_slotEdit s k b _ _
  · exact claimTcp_slotEdit hr

theorem settled_poolEdit (t : State) (b : Handle) (c : Claim) : PoolEdit t (t.settled b c) := by
  cases c
  · exact PoolEdit.refl t
  · exact PoolEdit.refl t
  · exact t.release_poolEdit b
  · exact t.release_poolEdit b

end

/-- Settles O60. -/
theorem acceptIsExclusive : Obligations.AcceptIsExclusive := by
  intro s b hs
  refine ⟨fun hb => if_pos hb, fun hb hheld => (check_passed hb).trans (if_pos hheld), fun hb hheld hnone => ?_, fun t he herr hres => ?_⟩
  · refine answers_report.of_eq (exec_accept_none hb hheld fun p h n hsniff => ?_)
    refine (State.offer_eq_none _ _ _ _ _ _).2 fun j hj hreg => ?_
    exact claim_of_not_claims hreg (hnone p h n hsniff j (List.mem_range.1 hj))
  · by_cases hb : s.build.hasBuffer b
    swap
    · cases (show s.fail 0x59 .handle = .next t from (if_pos hb).symm.trans he)
      cases herr
    by_cases hheld : s.hostHeld b
    swap
    · cases (show s.fail 0x59 .busy = .next t from ((check_passed hb).trans (if_pos hheld)).symm.trans he)
      cases herr
    by_cases hnone : ∀ p h n, s.sniff b = .packet .okay p h n → s.offer b p h n (List.range s.build.nconn) = none
    · cases (exec_accept_none hb hheld hnone).symm.trans he
      exact absurd rfl hres
    · push Not at hnone
      obtain ⟨p, h, n, hsniff, hsome⟩ := hnone
      obtain ⟨⟨k, c, u⟩, hoffer⟩ := Option.ne_none_iff_exists'.1 hsome
      cases (exec_accept_some hb hheld hsniff hoffer).symm.trans he
      obtain ⟨before, after, hrange, hreg, hclaim, hbefore⟩ := (State.offer_eq_some _ _ _ _ _ _ _ _).1 hoffer
      have hlt : k < s.build.nconn := List.mem_range.1 (hrange ▸ List.mem_append_right before List.mem_cons_self)
      refine ⟨p, h, n, hsniff, k, rfl, hlt, claims_of_claim hreg hclaim, fun hsound j hj hc => ?_, ?_⟩
      · obtain ⟨r, hr⟩ := claim_of_claims (n := n) hsound hc
        have hmem : j ∈ before := eq_range_of_append hrange ▸ List.mem_range.2 hj
        obtain ⟨⟨hjreg, -⟩, -⟩ := hc
        exact Option.some_ne_none r (hr.symm.trans (hbefore j hmem hjreg))
      · exact ((claim_slotEdit hclaim).trans (settled_poolEdit u b c).slotEdit).finish.others

end Sys2Proof.Machine

/-! ### CONN_ACCEPT: what the claiming slot does (44_connection.md R292 to R298) -/

namespace Sys2Proof.Machine

section
variable {s t u : State} {b r : Handle} {k h n : Nat} {p : Byte} {c : Claim} {g : Segment}

/-- What CONN_ACCEPT does with the buffer after a claim: it releases a consumed or dropped one (R290). -/
def Settles (t u : State) (b : Handle) : Claim → Prop
  | .staged => SamePool t u
  | .deliver => SamePool t u
  | .consumed => ReleasedTo t u b
  | .dropped => ReleasedTo t u b

theorem settles_settled (h : ClaimSound b (c, t)) {op : Byte} {r0 r1 : Word} : Settles t ((t.settled b c).finish op 0 r0 r1) b c := by
  obtain ⟨hsound, hheld⟩ := h
  cases c with
  | staged => exact ⟨rfl, rfl⟩
  | deliver => exact ⟨rfl, rfl⟩
  | consumed =>
    obtain ⟨hb, hoff⟩ := hheld (.inl rfl)
    exact (releasedTo_release hsound.pool.chains hb hoff).finish
  | dropped =>
    obtain ⟨hb, hoff⟩ := hheld (.inr rfl)
    exact (releasedTo_release hsound.pool.chains hb hoff).finish

/-- CONN_ACCEPT of a packet that slot `k` claims first, from what the slot's claim does. -/
theorem answers_accept {P : State → Prop} (hs : s.sound) (hb : s.build.hasBuffer b) (hheld : s.hostHeld b)
    (hsniff : s.sniff b = .packet .okay p h n) (hf : s.firstClaims k b p h) (hclaim : s.claim k b p h n = some (c, t))
    (hP : ∀ u, Reports s u 0x59 (claimCode c) (BitVec.ofNat 32 k) → SlotEdit s u k → OnlyPool t u → Settles t u b c → P u) :
    Answers (exec (.connAccept b) s) P := by
  have hoffer := offer_of_firstClaims hf hclaim
  obtain ⟨hk, -, -⟩ := hf
  have hconns := (bounded_of_sound hs).conns_length
  have hsound : ClaimSound b (c, t) := by
    obtain ⟨-, hn, -⟩ := sniffBytes_packet hsniff
    rw [State.packet, State.readBytes_length] at hn
    obtain ⟨-, hpool⟩ := sound_iff.1 hs
    exact .claim hpool (hconns ▸ hk) hb hheld hn hclaim
  refine (answers_done (hP _ (reports_finish ?_) ?_ ?_ ?_)).of_eq (exec_accept_some hb hheld hsniff hoffer)
  · exact (accept_keeps hoffer).regs
  · exact ((claim_slotEdit hclaim).trans (settled_poolEdit t b c).slotEdit).finish
  · exact (settled_poolEdit t b c).onlyPool_finish
  · exact settles_settled hsound

theorem OnlyPool.conn (h : OnlyPool t u) (k : Nat) : u.conn k = t.conn k := by
  obtain ⟨-, -, -, -, hconns⟩ := h
  exact State.conn_congr hconns k

/-! #### `Deliver` (R298) -/

theorem deliver_listener (hl : (s.conn k).listener = true) (poff plen : Nat) :
    s.deliver k b poff plen = (.deliver, s.raiseEvent k evData) := if_pos hl

theorem deliver_empty (hl : (s.conn k).listener = false) (poff : Nat) : s.deliver k b poff 0 = (.consumed, s) := by
  simp [State.deliver, hl]

theorem deliver_full (hl : (s.conn k).listener = false) (hstaged : (s.conn k).staged ≠ NONE) (poff : Nat) {plen : Nat} (hp : plen ≠ 0) :
    s.deliver k b poff plen = (.dropped, s) := by
  simp [State.deliver, hl, hp, hstaged]

theorem deliver_stages (hl : (s.conn k).listener = false) (hstaged : (s.conn k).staged = NONE) (poff : Nat) {plen : Nat} (hp : plen ≠ 0) :
    s.deliver k b poff plen = (.staged, (s.setConn k fun y =>
      { y with staged := b, soff := BitVec.ofNat 16 poff, events := y.events ||| evData }).setLoc b .hold) := by
  simp [State.deliver, hl, hp, hstaged]

/-- A staged buffer is in a holder, and no other buffer has changed (R298). -/
theorem staged_pool (hb : b.toNat < s.bufs.length) {f : Conn → Conn} (h : SamePool ((s.setConn k f).setLoc b .hold) u) :
    u.buf b = { s.buf b with loc := .hold } ∧ SameBufsBut s u b ∧ u.chains = s.chains := by
  obtain ⟨hbufs, hchains⟩ := h
  refine ⟨?_, fun x hx => ?_, hchains.trans rfl⟩
  · rw [State.buf_congr hbufs, State.setLoc_buf_same (by simpa using hb)]
    rfl
  · rw [State.buf_congr hbufs, State.setLoc_buf_ne hx]
    rfl

end

/-- Settles O57. -/
theorem acceptTakesADatagram : Obligations.AcceptTakesADatagram := by
  intro s b k h n hs hb hheld hsniff hf x drops
  have hclaim : s.claim k b 17 h n = some (s.claimUdp k b h n) := by
    obtain ⟨-, ⟨ha, -⟩, -⟩ := hf
    exact (claim_of_admits ha).trans (if_neg (by decide))
  have hk : k < s.conns.length := by
    obtain ⟨hk, -⟩ := hf
    obtain ⟨⟨-, -, -, -, hconns⟩, -⟩ := hs
    exact hconns ▸ hk
  obtain ⟨-, hn, hlong⟩ := sniffBytes_packet hsniff
  have hdrops (c : Claim) (hc : c = .consumed ∨ c = .dropped) (e : s.claimUdp k b h n = (c, s)) : drops (claimCode c) := by
    refine answers_accept hs hb hheld hsniff hf (hclaim.trans (congrArg some e)) fun u hreports _ honly hsettles => ?_
    obtain rfl | rfl := hc <;> exact ⟨hreports, hsettles, honly⟩
  have hopen (hx : x.state ≠ .closing) : s.claimUdp k b h n = s.deliver k b (h + 8) (n - 8) := if_neg hx
  refine ⟨fun hx => hdrops .dropped (.inr rfl) (if_pos hx), fun hx hl => ?_, fun hx hl h8 => ?_, fun hx hl h8 hstaged => ?_,
    fun hx hl h8 hstaged => ?_⟩
  · have e : s.claim k b 17 h n = some (.deliver, s.raiseEvent k evData) :=
      hclaim.trans (congrArg some ((hopen hx).trans (deliver_listener hl _ _)))
    refine answers_accept hs hb hheld hsniff hf e fun u hreports hedit honly hsettles => ⟨hreports, ?_, ?_⟩
    · exact (honly.conn k).trans (s.conn_setConn_same k _ hk)
    · exact ⟨hedit.setting, hsettles, hedit.data, hedit.csa, hedit.slf, hedit.others⟩
  · exact hdrops .consumed (.inl rfl) ((hopen hx).trans (by rw [h8]; exact deliver_empty hl _))
  · exact hdrops .dropped (.inr rfl) ((hopen hx).trans (deliver_full hl hstaged _ (by omega)))
  · have e := hclaim.trans (congrArg some ((hopen hx).trans (deliver_stages (b := b) hl hstaged (h + 8) (plen := n - 8) (by omega))))
    refine answers_accept hs hb hheld hsniff hf e fun u hreports hedit honly hsettles => ?_
    obtain ⟨hbuf, hothers, hchains⟩ := staged_pool ((chainsSound_of_sound hs).lt_bufs_length hb) hsettles
    refine ⟨hreports, ?_, hbuf, hothers, hchains, hedit.others, hedit.data, hedit.setting, hedit.csa, hedit.slf⟩
    exact (honly.conn k).trans (s.conn_setConn_same k _ hk)

end Sys2Proof.Machine

/-! ### CONN_ACCEPT of a TCP segment (44_connection.md R293 to R298) -/

namespace Sys2Proof.Machine

section
variable {s t u : State} {b r : Handle} {k h n : Nat} {p : Byte} {c : Claim} {g : Segment}

/-! #### A segment at an open slot (R296) -/

/-- The segment is the next one in order and no SYN or RST (R296). -/
def Segment.inOrder (g : Segment) (x : Conn) : Prop := g.fl &&& 0x06 = 0 ∧ g.seq = x.rcvAck

/-- The record of a slot that takes the payload of a segment (R296, R298). -/
def Conn.took (x : Conn) (g : Segment) : Conn :=
  { x with rcvAck := x.rcvAck + BitVec.ofNat 32 g.plen, ackDue := true, events := x.events ||| evData }

theorem tcpOpenRx_outOfOrder (hg : ¬ g.inOrder (s.conn k)) : s.tcpOpenRx k b g = s.dropWithAck k := by
  unfold State.tcpOpenRx
  dsimp only
  split_ifs with hfl hseq
  · rfl
  · rfl
  all_goals exact absurd ⟨hasFlag_eq_false.1 (Bool.eq_false_of_not_eq_true hfl), not_not.1 hseq⟩ hg

/-- A segment in order goes on to its payload. -/
theorem tcpOpenRx_inOrder (hg : g.inOrder (s.conn k)) :
    s.tcpOpenRx k b g =
      if g.plen = 0 then (.consumed, s)
      else if (s.conn k).listener = false ∧ (s.conn k).staged ≠ NONE then (.dropped, s)
      else (s.setConn k fun y => { y with rcvAck := y.rcvAck + BitVec.ofNat 32 g.plen, ackDue := true }).deliver k b g.poff g.plen := by
  obtain ⟨hfl, hseq⟩ := hg
  have hflag : hasFlag g.fl (flSyn ||| flRst) = false := hasFlag_eq_false.2 hfl
  unfold State.tcpOpenRx
  dsimp only
  rw [hflag, if_neg (by decide), if_neg (not_not_intro hseq)]

theorem tcpOpenRx_listener (hk : k < s.conns.length) (hg : g.inOrder (s.conn k)) (hp : g.plen ≠ 0) (hl : (s.conn k).listener = true) :
    s.tcpOpenRx k b g = (.deliver, s.setConn k fun x => x.took g) := by
  rw [tcpOpenRx_inOrder hg, if_neg hp, if_neg (by simp [hl]),
    deliver_listener (by rw [s.conn_setConn_same k _ hk]; exact hl), State.raiseEvent, State.setConn_setConn]
  rfl

theorem tcpOpenRx_stages (hk : k < s.conns.length) (hg : g.inOrder (s.conn k)) (hp : g.plen ≠ 0) (hl : (s.conn k).listener = false)
    (hstaged : (s.conn k).staged = NONE) :
    s.tcpOpenRx k b g =
      (.staged, (s.setConn k fun x => { x.took g with staged := b, soff := BitVec.ofNat 16 g.poff }).setLoc b .hold) := by
  rw [tcpOpenRx_inOrder hg, if_neg hp, if_neg (by simp [hstaged]),
    deliver_stages (by rw [s.conn_setConn_same k _ hk]; exact hl) (by rw [s.conn_setConn_same k _ hk]; exact hstaged) _ hp,
    State.setConn_setConn]
  rfl

/-- A bound slot goes by its state (R293). -/
theorem claim_bound (hs : s.sound) (hc : s.claims k b 6 h) (hl : (s.conn k).state ≠ .listen) :
    s.claim k b 6 h n =
      match (s.conn k).state with
      | .synSent => some (s.claimSynSent k b (s.segment b h n))
      | .synRcvd => some (s.claimSynRcvd k b (s.segment b h n))
      | .opened => some (s.tcpOpenRx k b (s.segment b h n))
      | .closing => some (.dropped, s)
      | .closed => none
      | .listen => none := by
  obtain ⟨ha, -⟩ := hc
  rw [claim_of_admits ha, if_pos rfl]
  obtain ⟨-, hproto, -, hclosed, -⟩ := ha
  obtain ⟨-, -, -, -, hbound, -⟩ := (bounded_of_sound hs).conn_ok k
  exact if_neg (by rw [hbound hproto hclosed hl]; decide)

theorem claims_of_firstClaims (hf : s.firstClaims k b p h) : s.claims k b p h ∧ k < s.conns.length := by
  obtain ⟨-, hc, -⟩ := hf
  have hclaims := hc
  obtain ⟨⟨-, -, -, hclosed, -⟩, -⟩ := hclaims
  exact ⟨hc, conn_lt_of_state_ne hclosed⟩

theorem claim_opened (hs : s.sound) (hc : s.claims k b 6 h) (hst : (s.conn k).state = .opened) :
    s.claim k b 6 h n = some (s.tcpOpenRx k b (s.segment b h n)) := by
  rw [claim_bound hs hc (by simp [hst]), hst]

theorem claim_closing (hs : s.sound) (hc : s.claims k b 6 h) (hst : (s.conn k).state = .closing) :
    s.claim k b 6 h n = some (.dropped, s) := by
  rw [claim_bound hs hc (by simp [hst]), hst]

theorem claim_synSent (hs : s.sound) (hc : s.claims k b 6 h) (hst : (s.conn k).state = .synSent) :
    s.claim k b 6 h n = some (s.claimSynSent k b (s.segment b h n)) := by
  rw [claim_bound hs hc (by simp [hst]), hst]

theorem claim_synRcvd (hs : s.sound) (hc : s.claims k b 6 h) (hst : (s.conn k).state = .synRcvd) :
    s.claim k b 6 h n = some (s.claimSynRcvd k b (s.segment b h n)) := by
  rw [claim_bound hs hc (by simp [hst]), hst]

/-- A listening slot that claims the packet binds to its sender (R293). -/
theorem claim_listen (hs : s.sound) (hc : s.claims k b 6 h) (hst : (s.conn k).state = .listen) :
    s.claim k b 6 h n = some (s.claimSyn k (s.srcAddr b) (s.srcPort b h) (s.segment b h n)) := by
  obtain ⟨ha, hsyn⟩ := hc
  obtain ⟨-, -, -, hunbound, -⟩ := (bounded_of_sound hs).conn_ok k
  rw [claim_of_admits ha, if_pos rfl]
  unfold State.claimTcp
  dsimp only
  rw [if_pos (hunbound hst), if_pos ⟨hst, by rw [segment_fl]; exact bareSyn_iff.2 (hsyn rfl hst)⟩]

/-! #### The pool before the claim and after its slot's record has changed -/

theorem ReleasedTo.congr_left (h : ReleasedTo t u b) (hbuild : t.build = s.build) (hbufs : t.bufs = s.bufs)
    (hchains : t.chains = s.chains) : ReleasedTo s u b := by
  simpa only [ReleasedTo, SameBufsBut, SameChainsBut, State.chainList_congr hbuild hbufs hchains, State.buf_congr hbufs, hchains,
    State.chain_congr hchains] using h

theorem RetxDropped.congr_left (h : RetxDropped t u b) (hbuild : t.build = s.build) (hbufs : t.bufs = s.bufs)
    (hchains : t.chains = s.chains) : RetxDropped s u b := by
  simpa only [RetxDropped, SameBufsBut, SameChainsBut, State.chainList_congr hbuild hbufs hchains, State.buf_congr hbufs, hchains,
    State.chain_congr hchains] using h

theorem ReleasedTo.of_setConn {f : Conn → Conn} (h : ReleasedTo (s.setConn k f) u b) : ReleasedTo s u b := h.congr_left rfl rfl rfl

end

/-- Settles O59. -/
theorem acceptTakesInOrderData : Obligations.AcceptTakesInOrderData := by
  intro s b k h n hs hb hheld hsniff hf hstate x g fits drops
  obtain ⟨hc, hk⟩ := claims_of_firstClaims hf
  have hlen := (chainsSound_of_sound hs).lt_bufs_length hb
  have hdrops {c : Claim} {t : State} {y : Conn} (hcode : c = .consumed ∨ c = .dropped) (hclaim : s.claim k b 6 h n = some (c, t))
      (hy : t.conn k = y) (hback : ∀ u, ReleasedTo t u b → ReleasedTo s u b) : drops (claimCode c) y := by
    refine answers_accept hs hb hheld hsniff hf hclaim fun u hreports hedit honly hsettles => ?_
    have hreleased : ReleasedTo t u b := by obtain rfl | rfl := hcode <;> exact hsettles
    exact ⟨hreports, (honly.conn k).trans hy, hedit.others, hback u hreleased, hedit.data, hedit.setting, hedit.csa, hedit.slf⟩
  have hopen (hst : x.state = .opened) : s.claim k b 6 h n = some (s.tcpOpenRx k b g) := claim_opened hs hc hst
  refine ⟨fun hst => ?_, fun hst hfits => ?_, fun hfits hp => ?_, fun hfits hp hl hstaged => ?_, fun hfits hp hl => ?_,
    fun hfits hp hl hstaged => ?_⟩
  · exact hdrops (.inr rfl) (claim_closing hs hc hst) rfl fun _ => id
  · have hg : ¬ g.inOrder x := fun hg => hfits ⟨hst, hg⟩
    exact hdrops (.inr rfl) ((hopen hst).trans (congrArg some (tcpOpenRx_outOfOrder hg))) (s.conn_setConn_same k _ hk)
      fun _ => ReleasedTo.of_setConn
  · obtain ⟨hst, hg⟩ := hfits
    exact hdrops (.inl rfl) ((hopen hst).trans (congrArg some ((tcpOpenRx_inOrder hg).trans (if_pos hp)))) rfl fun _ => id
  · obtain ⟨hst, hg⟩ := hfits
    refine hdrops (.inr rfl) ((hopen hst).trans (congrArg some ?_)) rfl fun _ => id
    exact (tcpOpenRx_inOrder hg).trans ((if_neg hp).trans (if_pos ⟨hl, hstaged⟩))
  · obtain ⟨hst, hg⟩ := hfits
    have e := (hopen hst).trans (congrArg some (tcpOpenRx_listener hk hg hp hl))
    refine answers_accept hs hb hheld hsniff hf e fun u hreports hedit honly hsettles => ⟨hreports, ?_, ?_⟩
    · exact (honly.conn k).trans (s.conn_setConn_same k _ hk)
    · exact ⟨hedit.setting, hsettles, hedit.data, hedit.csa, hedit.slf, hedit.others⟩
  · obtain ⟨hst, hg⟩ := hfits
    have e := (hopen hst).trans (congrArg some (tcpOpenRx_stages hk hg hp hl hstaged))
    refine answers_accept hs hb hheld hsniff hf e fun u hreports hedit honly hsettles => ?_
    obtain ⟨hbuf, hothers, hchains⟩ := staged_pool hlen hsettles
    refine ⟨hreports, ?_, hbuf, hothers, hchains, hedit.others, hedit.data, hedit.setting, hedit.csa, hedit.slf⟩
    exact (honly.conn k).trans (s.conn_setConn_same k _ hk)

end Sys2Proof.Machine

/-! ### CONN_ACCEPT: the handshake (44_connection.md R293 to R298) -/

namespace Sys2Proof.Machine

section
variable {s : State} {b : Handle} {k h n : Nat} {c : Claim}

/-- The answer of the claims of a TCP segment: what RES0 is, the slot's record, and what the pool is. -/
def AcceptAnswers (s : State) (b : Handle) (k : Nat) (code : Word) (y : Conn) (pool : State → Prop) : Prop :=
  Answers (exec (.connAccept b) s) fun t =>
    Reports s t 0x59 code (BitVec.ofNat 32 k) ∧ t.conn k = y ∧ SameConnsBut s t k ∧ SameData s t ∧ SameSetting s t ∧
      t.csa = s.csa ∧ t.slf = s.slf ∧ pool t

theorem acceptAnswers {p : Byte} {t : State} {y : Conn} {pool : State → Prop} (hs : s.sound) (hb : s.build.hasBuffer b)
    (hheld : s.hostHeld b) (hsniff : s.sniff b = .packet .okay p h n) (hf : s.firstClaims k b p h)
    (hclaim : s.claim k b p h n = some (c, t)) (hy : t.conn k = y) (hpool : ∀ u, u.build = s.build → Settles t u b c → pool u) :
    AcceptAnswers s b k (claimCode c) y pool :=
  answers_accept hs hb hheld hsniff hf hclaim fun _ hreports hedit honly hsettles =>
    have ⟨hbuild, _⟩ := hedit.setting
    ⟨hreports, (honly.conn k).trans hy, hedit.others, hedit.data, hedit.setting, hedit.csa, hedit.slf, hpool _ hbuild hsettles⟩

/-! #### The retransmit buffer given up (R242, log entry 11) -/

theorem releaseRetxOffered_givenUp (hs : ChainsSound s) (hb : s.build.hasBuffer b)
    (hretx : (s.conn k).retx ≠ NONE → s.build.hasBuffer (s.conn k).retx) :
    RetxGivenUp s (s.releaseRetxOffered k b) (s.conn k).retx b := by
  refine ⟨fun hnone => ?_, fun hne hother => ?_, fun hne hown => ?_⟩
  · have hother : (s.conn k).retx ≠ b := hnone ▸ (hs.ne_none hb).symm
    rw [s.releaseRetxOffered_other k b hother, s.releaseRetx_none k hnone]
    exact ⟨rfl, rfl⟩
  · rw [s.releaseRetxOffered_other k b hother]
    exact retxDropped_releaseRetx hs (hretx hne)
  · rw [s.releaseRetxOffered_own k b hown]
    exact ⟨fun _ hx => State.dropRef_buf_ne hx, s.dropRef_chains b, State.dropRef_buf_same (hs.lt_bufs_length hb)⟩

theorem RetxGivenUp.congr {t u : State} {r : Handle} (h : RetxGivenUp s t r b) (hbuild : u.build = t.build) (hbufs : u.bufs = t.bufs)
    (hchains : u.chains = t.chains) : RetxGivenUp s u r b := by
  obtain ⟨hnone, hother, hown⟩ := h
  refine ⟨fun hr => ?_, fun hr hne => (hother hr hne).congr hbuild hbufs hchains, fun hr he => ?_⟩
  · obtain ⟨hb, hc⟩ := hnone hr
    exact ⟨hbufs.trans hb, hchains.trans hc⟩
  · obtain ⟨hframe, hc, hbuf⟩ := hown hr he
    exact ⟨fun x hx => (State.buf_congr hbufs x).trans (hframe x hx), hchains.trans hc, (State.buf_congr hbufs b).trans hbuf⟩

theorem RetxGivenUp.of_setConn {t : State} {r : Handle} {f : Conn → Conn} (h : RetxGivenUp (s.setConn k f) t r b) :
    RetxGivenUp s t r b := by
  obtain ⟨hnone, hother, hown⟩ := h
  exact ⟨hnone, fun hr hne => (hother hr hne).congr_left rfl rfl rfl, hown⟩

/-! #### The slot opens (R294, R295) -/

/-- A slot in SYN_SENT or SYN_RCVD that opens: its record changes by `f`, it gives up its retransmit buffer, and its record changes by `f'`. -/
def State.opens (s : State) (k : Nat) (b : Handle) (f f' : Conn → Conn) : State :=
  ((s.setConn k f).releaseRetxOffered k b).setConn k f'

theorem opens_conn (hk : k < s.conns.length) (f f' : Conn → Conn) :
    (s.opens k b f f').conn k = f' { f (s.conn k) with retx := NONE } := by
  rw [State.opens, State.conn_setConn_same _ _ _ (by rwa [releaseRetxOffered_conns_length, State.setConn_conns_length]),
    releaseRetxOffered_setConn_conn hk]

theorem opens_givenUp (hs : s.sound) (hk : k < s.conns.length) (hb : s.build.hasBuffer b) {f : Conn → Conn}
    (hf : (f (s.conn k)).retx = (s.conn k).retx) (f' : Conn → Conn) :
    (s.opens k b f f').build = s.build ∧ RetxGivenUp s (s.opens k b f f') (s.conn k).retx b := by
  have hretx : ((s.setConn k f).conn k).retx = (s.conn k).retx := by rw [s.conn_setConn_same k f hk, hf]
  have hgiven := releaseRetxOffered_givenUp (k := k) ((chainsSound_of_sound hs).setConn k f) (b := b) hb
    fun hne => hretx ▸ retx_hasBuffer hs hk (hretx ▸ hne)
  refine ⟨by simp [State.opens], ?_⟩
  exact (hretx ▸ hgiven).of_setConn.congr rfl rfl rfl

theorem opens_bufs_length (f f' : Conn → Conn) : (s.opens k b f f').bufs.length = s.bufs.length := by
  rw [State.opens, State.setConn_bufs]
  by_cases hown : ((s.setConn k f).conn k).retx = b
  · rw [State.releaseRetxOffered_own _ k b hown, State.setConn_bufs, State.dropRef_bufs_length, State.setConn_bufs]
  · rw [State.releaseRetxOffered_other _ k b hown]
    by_cases hnone : ((s.setConn k f).conn k).retx = NONE
    · rw [State.releaseRetx_none _ k hnone, State.setConn_bufs]
    · rw [State.releaseRetx_some hnone, State.setConn_bufs, (State.dropRetx_poolEdit _ _).bufs_length, State.setConn_bufs]

/-- A matching SYN-ACK opens a client (R294). -/
theorem claimSynSent_opens {g : Segment} (hsyn : g.fl &&& 0x02 ≠ 0) (hack : g.fl &&& 0x10 ≠ 0) (hrst : ¬ g.fl &&& 0x04 ≠ 0)
    (hackn : g.ackn = (s.conn k).sndSeq + 1) :
    s.claimSynSent k b g =
      (.consumed, s.opens k b (fun y => { y with rcvAck := g.seq + 1, sndSeq := y.sndSeq + 1 }) fun y =>
        { y with synDue := false, retxDue := false, state := .opened, ackDue := true, events := y.events ||| evOpened }) :=
  if_pos ⟨hasFlag_iff.2 hsyn, hasFlag_iff.2 hack, hasFlag_eq_false.2 (not_not.1 hrst), hackn⟩

theorem claimSynSent_drops {g : Segment}
    (hg : ¬ (g.fl &&& 0x02 ≠ 0 ∧ g.fl &&& 0x10 ≠ 0 ∧ ¬ g.fl &&& 0x04 ≠ 0 ∧ g.ackn = (s.conn k).sndSeq + 1)) :
    s.claimSynSent k b g = (.dropped, s) := by
  refine if_neg fun h => hg ?_
  obtain ⟨hsyn, hack, hrst, hackn⟩ := h
  exact ⟨hasFlag_iff.1 hsyn, hasFlag_iff.1 hack, not_not_intro (hasFlag_eq_false.1 hrst), hackn⟩

/-- The slot of a server after the ACK that opens it (R295). -/
def State.server (s : State) (k : Nat) (b : Handle) : State :=
  s.opens k b (fun y => { y with sndSeq := y.sndSeq + 1 }) fun y =>
    { y with synackDue := false, retxDue := false, state := .opened, events := y.events ||| evOpened }

/-- A matching ACK opens a server, and the segment goes on as one of the open slot (R295). -/
theorem claimSynRcvd_opens {g : Segment} (hack : g.fl &&& 0x10 ≠ 0) (hfl : g.fl &&& 0x06 = 0) (hackn : g.ackn = (s.conn k).sndSeq + 1) :
    s.claimSynRcvd k b g = (s.server k b).tcpOpenRx k b g :=
  if_pos ⟨hasFlag_iff.2 hack, hasFlag_eq_false.2 hfl, hackn⟩

theorem claimSynRcvd_drops {g : Segment} (hg : ¬ (g.fl &&& 0x10 ≠ 0 ∧ g.fl &&& 0x06 = 0 ∧ g.ackn = (s.conn k).sndSeq + 1)) :
    s.claimSynRcvd k b g = s.dropWithAck k := by
  refine if_neg fun h => hg ?_
  obtain ⟨hack, hfl, hackn⟩ := h
  exact ⟨hasFlag_iff.1 hack, hasFlag_eq_false.1 hfl, hackn⟩

end

/-- Settles O58. -/
theorem acceptAdvancesTheHandshake : Obligations.AcceptAdvancesTheHandshake := by
  intro s b k h n hs hb hheld hsniff hf x g has answers givesUp synAck ack server taken
  obtain ⟨hc, hk⟩ := claims_of_firstClaims hf
  have hanswers {c : Claim} {t : State} {y : Conn} {pool : State → Prop} (hclaim : s.claim k b 6 h n = some (c, t))
      (hy : t.conn k = y) (hpool : ∀ u, u.build = s.build → Settles t u b c → pool u) : answers (claimCode c) y pool :=
    acceptAnswers hs hb hheld hsniff hf hclaim hy hpool
  have hrcvd (hst : x.state = .synRcvd) : s.claim k b 6 h n = some (s.claimSynRcvd k b g) := claim_synRcvd hs hc hst
  refine ⟨fun hst => ?_, fun hst hsa => ?_, fun hst hsa => ?_, fun hst ha => ?_, fun hst ha => ?_⟩
  · exact hanswers (claim_listen hs hc hst) (s.conn_setConn_same k _ hk) fun _ _ => ReleasedTo.of_setConn
  · obtain ⟨hsyn, hack, hrst, hackn⟩ := hsa
    refine hanswers ((claim_synSent hs hc hst).trans (congrArg some (claimSynSent_opens hsyn hack hrst hackn)))
      (opens_conn hk _ _) fun u _ hu => ⟨_, ?_, ?_, hu⟩
    · exact (opens_givenUp hs hk hb (by rfl) _).1
    · exact (opens_givenUp hs hk hb (by rfl) _).2
  · exact hanswers ((claim_synSent hs hc hst).trans (congrArg some (claimSynSent_drops hsa))) rfl fun _ _ => id
  · exact hanswers ((hrcvd hst).trans (congrArg some (claimSynRcvd_drops ha))) (s.conn_setConn_same k _ hk)
      fun _ _ => ReleasedTo.of_setConn
  · obtain ⟨hack, hfl, hackn⟩ := ha
    have hclaim : s.claim k b 6 h n = some ((s.server k b).tcpOpenRx k b g) :=
      (hrcvd hst).trans (congrArg some (claimSynRcvd_opens hack hfl hackn))
    have hserver : (s.server k b).conn k = server := opens_conn hk _ _
    obtain ⟨hbuild, hgiven⟩ : (s.server k b).build = s.build ∧ RetxGivenUp s (s.server k b) x.retx b :=
      opens_givenUp hs hk hb (by rfl) _
    have hlen : b.toNat < (s.server k b).bufs.length := (chainsSound_of_sound hs).lt_bufs_length hb |>.trans_eq (opens_bufs_length _ _).symm
    generalize s.server k b = v at hclaim hserver hbuild hgiven hlen
    have hkv : k < v.conns.length := conn_lt_of_state_ne (by rw [hserver]; exact ConnState.noConfusion)
    have hgives (u : State) (_ : u.build = s.build) (hu : ReleasedTo v u b) : givesUp u := ⟨v, hbuild, hgiven, hu⟩
    have hin (hseq : g.seq = x.rcvAck) : g.inOrder (v.conn k) := by rw [hserver]; exact ⟨hfl, hseq⟩
    have hlistener : (v.conn k).listener = x.listener := by rw [hserver]
    have hstaged : (v.conn k).staged = x.staged := by rw [hserver]
    have hevents : (x.events ||| 1) ||| evData = x.events ||| 5 := BitVec.or_assoc _ _ _
    have htaken : (v.conn k).took g = taken := by
      rw [hserver, Conn.took, hevents]
    refine ⟨fun hseq => ?_, fun hseq hp => ?_, fun hseq hp hl hst => ?_, fun hseq hp hl => ?_, fun hseq hp hl hst => ?_⟩
    · have hout : ¬ g.inOrder (v.conn k) := by rw [hserver]; exact fun h => hseq h.2
      refine hanswers (hclaim.trans (congrArg some (tcpOpenRx_outOfOrder hout))) ?_ fun u hbuild' hu => hgives u hbuild' hu.of_setConn
      rw [v.conn_setConn_same k _ hkv, hserver]
    · exact hanswers (hclaim.trans (congrArg some ((tcpOpenRx_inOrder (hin hseq)).trans (if_pos hp)))) hserver hgives
    · exact hanswers (hclaim.trans (congrArg some ((tcpOpenRx_inOrder (hin hseq)).trans
        ((if_neg hp).trans (if_pos ⟨hlistener.trans hl, hstaged ▸ hst⟩))))) hserver hgives
    · refine hanswers (hclaim.trans (congrArg some (tcpOpenRx_listener hkv (hin hseq) hp (hlistener.trans hl)))) ?_ fun u hbuild' hu => ?_
      · rw [v.conn_setConn_same k _ hkv, htaken]
      · obtain ⟨hbufs, hchains⟩ := hu
        exact hgiven.congr (hbuild'.trans hbuild.symm) hbufs hchains
    · refine hanswers (hclaim.trans (congrArg some
        (tcpOpenRx_stages hkv (hin hseq) hp (hlistener.trans hl) (hstaged.trans hst)))) ?_
        fun u _ hu => ⟨v, hbuild, hgiven, staged_pool hlen hu⟩
      change (v.setConn k _).conn k = _
      rw [v.conn_setConn_same k _ hkv, htaken]

end Sys2Proof.Machine

/-! ### The stream of a slot: Refill and CONN_READ (44_connection.md R260, R261) -/

namespace Sys2Proof.Machine

section
variable {s t u : State} {b : Handle} {k : Nat}

/-- What Refill and CONN_READ do to slot `k`: only RFIFO, STAGED and SOFF change, a staged buffer stays or is given back, and one that
is still staged has bytes left. -/
structure Moves (s t : State) (k : Nat) : Prop where
  record : ∃ r so, t.conn k = { s.conn k with rfifo := r, staged := (t.conn k).staged, soff := so }
  staged : (t.conn k).staged = (s.conn k).staged ∨ (t.conn k).staged = NONE
  left : (t.conn k).staged ≠ NONE → (t.conn k).soff.toNat < (t.buf (t.conn k).staged).len.toNat
  kept : (t.conn k).staged = (s.conn k).staged → SamePool s t
  released : (t.conn k).staged ≠ (s.conn k).staged → ReleasedTo s t (s.conn k).staged
  edit : SlotEdit s t k

theorem SamePool.trans (h : SamePool s t) (h' : SamePool t u) : SamePool s u := by
  obtain ⟨hbufs, hchains⟩ := h
  obtain ⟨hbufs', hchains'⟩ := h'
  exact ⟨hbufs'.trans hbufs, hchains'.trans hchains⟩

theorem Moves.trans (h : Moves s t k) (h' : Moves t u k) : Moves s u k := by
  have hedit := h.edit.trans h'.edit
  obtain ⟨r, so, hconn⟩ := h.record
  obtain ⟨r', so', hconn'⟩ := h'.record
  obtain ⟨hbuild, -⟩ := h.edit.setting
  obtain ⟨hbuild', -⟩ := h'.edit.setting
  have hrecord : ∃ r so, u.conn k = { s.conn k with rfifo := r, staged := (u.conn k).staged, soff := so } :=
    ⟨r', so', by rw [hconn']; rw [hconn]⟩
  have hnone : (t.conn k).staged = NONE → (u.conn k).staged = NONE := fun he => h'.staged.elim (·.trans he) id
  by_cases hkept : (t.conn k).staged = (s.conn k).staged
  · obtain ⟨hbufs, hchains⟩ := h.kept hkept
    refine ⟨hrecord, hkept ▸ h'.staged, h'.left, fun he => (h.kept hkept).trans (h'.kept (he.trans hkept.symm)), fun hne => ?_, hedit⟩
    exact hkept ▸ (h'.released (hkept ▸ hne)).congr_left hbuild hbufs hchains
  · have ht := h.staged.resolve_left hkept
    have hu := hnone ht
    obtain ⟨hbufs', hchains'⟩ := h'.kept (hu.trans ht.symm)
    exact ⟨hrecord, .inr hu, h'.left, fun he => absurd (ht.trans (hu.symm.trans he)) hkept,
      fun _ => (h.released hkept).congr hbuild' hbufs' hchains', hedit⟩

theorem staged_left (hs : s.sound) (hk : k < s.conns.length) (hne : (s.conn k).staged ≠ NONE) :
    (s.conn k).soff.toNat < (s.buf (s.conn k).staged).len.toNat := by
  obtain ⟨-, -, -, -, -, -, hstaged⟩ := hs
  exact hstaged _ (conn_mem hk) hne

/-- Bytes taken from RFIFO. -/
theorem moves_setConn (hs : s.sound) (hk : k < s.conns.length) (f : List Byte → List Byte) :
    Moves s (s.setConn k fun x => { x with rfifo := f x.rfifo }) k := by
  have hconn := s.conn_setConn_same k (fun x => { x with rfifo := f x.rfifo }) hk
  refine ⟨⟨_, _, hconn.trans (by rw [hconn])⟩, .inl (by rw [hconn]), fun hne => ?_, fun _ => ⟨rfl, rfl⟩, fun hne => ?_,
    slotEdit_setConn s k _⟩
  · rw [hconn] at hne ⊢
    exact staged_left hs hk hne
  · exact absurd (by rw [hconn]) hne

/-! #### Refill -/

/-- Refill before a used up buffer is given back. -/
def State.fillRfifo (s : State) (k : Nat) : State :=
  s.setConn k fun y =>
    { y with rfifo := y.rfifo ++ s.readBytes (s.conn k).staged (s.conn k).soff.toNat (s.refillCount k),
             soff := y.soff + BitVec.ofNat 16 (s.refillCount k) }

theorem fillRfifo_conn (hk : k < s.conns.length) :
    (s.fillRfifo k).conn k =
      { s.conn k with rfifo := (s.conn k).rfifo ++ s.readBytes (s.conn k).staged (s.conn k).soff.toNat (s.refillCount k),
                      soff := (s.conn k).soff + BitVec.ofNat 16 (s.refillCount k) } :=
  s.conn_setConn_same k _ hk

theorem refill_some (hk : k < s.conns.length) (hne : (s.conn k).staged ≠ NONE) :
    s.refill k =
      if (s.buf (s.conn k).staged).len.toNat ≤ ((s.conn k).soff + BitVec.ofNat 16 (s.refillCount k)).toNat then
        (s.fillRfifo k).releaseStaged k
      else s.fillRfifo k := by
  have hsoff : ((s.fillRfifo k).conn k).soff = (s.conn k).soff + BitVec.ofNat 16 (s.refillCount k) := by rw [fillRfifo_conn hk]
  rw [← hsoff]
  exact if_neg hne

/-- Where Refill leaves SOFF in a staged buffer with bytes left. -/
theorem soff_add_refillCount (hleft : (s.conn k).soff.toNat < (s.buf (s.conn k).staged).len.toNat) :
    ((s.conn k).soff + BitVec.ofNat 16 (s.refillCount k)).toNat = (s.conn k).soff.toNat + s.refillCount k ∧
      (s.conn k).soff.toNat + s.refillCount k ≤ (s.buf (s.conn k).staged).len.toNat := by
  have hcount : s.refillCount k ≤ (s.buf (s.conn k).staged).len.toNat - (s.conn k).soff.toNat := Nat.min_le_right _ _
  have hlen := (s.buf (s.conn k).staged).len.isLt
  rw [BitVec.toNat_add, BitVec.toNat_ofNat]
  constructor <;> omega

/-- What Refill does: nothing without a staged buffer, else move bytes, and give the buffer back where it is used up. -/
theorem refill_cases (hs : s.sound) (hk : k < s.conns.length) :
    let x := s.conn k
    (x.staged = NONE ∧ s.refill k = s) ∨
      (x.staged ≠ NONE ∧ x.soff.toNat + s.refillCount k = (s.buf x.staged).len.toNat ∧
        s.refill k = (s.fillRfifo k).releaseStaged k) ∨
      (x.staged ≠ NONE ∧ x.soff.toNat + s.refillCount k < (s.buf x.staged).len.toNat ∧ s.refill k = s.fillRfifo k) := by
  intro x
  by_cases hne : x.staged = NONE
  · exact .inl ⟨hne, s.refill_none k hne⟩
  · obtain ⟨hsoff, hle⟩ := soff_add_refillCount (staged_left hs hk hne)
    have hrefill := refill_some hk hne
    rw [hsoff] at hrefill
    split_ifs at hrefill with hused
    · exact .inr (.inl ⟨hne, Nat.le_antisymm hle hused, hrefill⟩)
    · exact .inr (.inr ⟨hne, Nat.lt_of_not_le hused, hrefill⟩)

theorem refill_sound (hs : s.sound) (k : Nat) : (s.refill k).sound := by
  obtain ⟨hbounded, hpool⟩ := sound_iff.1 hs
  exact sound_iff.2 ⟨hbounded.refill k, hpool.refill k⟩

theorem Moves.refl (hs : s.sound) (hk : k < s.conns.length) : Moves s s k :=
  ⟨⟨_, _, rfl⟩, .inl rfl, staged_left hs hk, fun _ => ⟨rfl, rfl⟩, fun hne => absurd rfl hne, (PoolEdit.refl s).slotEdit⟩

theorem refill_moves (hs : s.sound) (hk : k < s.conns.length) : Moves s (s.refill k) k := by
  have hconn := fillRfifo_conn hk
  obtain ⟨-, e⟩ | ⟨hne, -, e⟩ | ⟨hne, hlt, e⟩ := refill_cases hs hk
  · exact e.symm ▸ Moves.refl hs hk
  · have hlen : k < (s.fillRfifo k).conns.length := (s.setConn_conns_length k _).symm ▸ hk
    have hstaged : ((s.fillRfifo k).conn k).staged = (s.conn k).staged := by rw [hconn]
    have hnone := releaseStaged_staged (s.fillRfifo k) k
    obtain ⟨hb, hhold⟩ := staged_held hs hk hne
    have hreleased : ReleasedTo s ((s.fillRfifo k).releaseStaged k) (s.conn k).staged := by
      have hback := releasedTo_setLoc_release ((chainsSound_of_sound hs).setConn k _ : ChainsSound (s.fillRfifo k)) hb
        fun d hd => Loc.noConfusion (hhold.symm.trans hd)
      rw [State.releaseStaged_some (hstaged ▸ hne), hstaged]
      exact (hback.setConn k _).of_setConn
    rw [e]
    refine ⟨?_, .inr hnone, fun h => absurd hnone h, fun h => absurd (h.symm.trans hnone) hne, fun _ => hreleased, ?_⟩
    · rw [State.releaseStaged_conn hlen, hconn]
      exact ⟨_, _, rfl⟩
    · exact (slotEdit_setConn s k _).trans (State.releaseStaged_slotEdit _ k)
  · obtain ⟨hsoff, -⟩ := soff_add_refillCount (staged_left hs hk hne)
    rw [e]
    refine ⟨?_, .inl (by rw [hconn]), fun _ => ?_, fun _ => ⟨rfl, rfl⟩, fun h => absurd (by rw [hconn]) h, slotEdit_setConn s k _⟩
    · rw [hconn]
      exact ⟨_, _, rfl⟩
    · rw [hconn]
      exact hsoff.trans_lt hlt

/-! #### The stream (R260) -/

theorem readBytes_append (o m n : Nat) : s.readBytes b o (m + n) = s.readBytes b o m ++ s.readBytes b (o + m) n := by
  have hdrop : (s.readBytes b o (m + n)).drop m = s.readBytes b (o + m) n := by rw [drop_readBytes, Nat.add_sub_cancel_left]
  rw [← hdrop, ← take_readBytes (Nat.le_add_right m n), List.take_append_drop]

theorem stream_of_staged_none (h : (s.conn k).staged = NONE) : s.stream k = (s.conn k).rfifo := by
  rw [State.stream, if_pos h, List.append_nil]

theorem refill_stream (hs : s.sound) (hk : k < s.conns.length) : (s.refill k).stream k = s.stream k := by
  have hconn := fillRfifo_conn hk
  obtain ⟨-, e⟩ | ⟨hne, hused, e⟩ | ⟨hne, hlt, e⟩ := refill_cases hs hk
  · rw [e]
  · have hlen : k < (s.fillRfifo k).conns.length := (s.setConn_conns_length k _).symm ▸ hk
    rw [e, stream_of_staged_none (releaseStaged_staged _ k), State.releaseStaged_conn hlen, hconn, State.stream]
    dsimp only
    rw [if_neg hne, ← hused, Nat.add_sub_cancel_left]
  · obtain ⟨hsoff, -⟩ := soff_add_refillCount (staged_left hs hk hne)
    have hbytes (o n : Nat) : (s.fillRfifo k).readBytes (s.conn k).staged o n = s.readBytes (s.conn k).staged o n := rfl
    have hbuf : (s.fillRfifo k).buf (s.conn k).staged = s.buf (s.conn k).staged := rfl
    have hcount : s.refillCount k + ((s.buf (s.conn k).staged).len.toNat - ((s.conn k).soff.toNat + s.refillCount k)) =
        (s.buf (s.conn k).staged).len.toNat - (s.conn k).soff.toNat := by omega
    rw [e, State.stream, hconn, State.stream]
    dsimp only
    rw [if_neg hne, if_neg hne, hbytes, hbuf, hsoff, List.append_assoc, ← readBytes_append, hcount]

/-- Refill ends with no staged buffer or a full RFIFO (R260). -/
theorem refill_full (hs : s.sound) (hk : k < s.conns.length) :
    ((s.refill k).conn k).staged = NONE ∨ ((s.refill k).conn k).rfifo.length = s.build.fifoCap := by
  obtain ⟨hnone, e⟩ | ⟨-, -, e⟩ | ⟨-, hlt, e⟩ := refill_cases hs hk
  · exact .inl (e.symm ▸ hnone)
  · exact .inl (e.symm ▸ releaseStaged_staged _ k)
  · obtain ⟨hcap, -⟩ := (bounded_of_sound hs).conn_ok k
    have hcount : s.refillCount k =
      min (s.build.fifoCap - (s.conn k).rfifo.length) ((s.buf (s.conn k).staged).len.toNat - (s.conn k).soff.toNat) := rfl
    refine .inr ?_
    rw [e, fillRfifo_conn hk, List.length_append, State.readBytes_length]
    omega

/-! #### The loop of CONN_READ (R261) -/

/-- One turn of the loop: the bytes wanted that RFIFO has. -/
def State.readTurn (s : State) (k want : Nat) : State :=
  s.setConn k fun x => { x with rfifo := x.rfifo.drop (min want (s.conn k).rfifo.length) }

theorem readTurn_sound (hs : s.sound) (k want : Nat) : (s.readTurn k want).sound := by
  obtain ⟨hbounded, hpool⟩ := sound_iff.1 hs
  refine sound_iff.2 ⟨hbounded.setConn fun hx => ?_, hpool.setConn_keep⟩
  obtain ⟨hr, hw⟩ := hx
  exact ⟨(List.length_drop.trans_le (Nat.sub_le _ _)).trans hr, hw⟩

/-- What one turn takes is the front of the stream. -/
theorem readTurn_stream (hk : k < s.conns.length) (want : Nat) :
    s.stream k = (s.conn k).rfifo.take (min want (s.conn k).rfifo.length) ++ (s.readTurn k want).stream k := by
  have hconn : (s.readTurn k want).conn k =
      { s.conn k with rfifo := (s.conn k).rfifo.drop (min want (s.conn k).rfifo.length) } := s.conn_setConn_same k _ hk
  rw [State.stream, State.stream, hconn, ← List.append_assoc, List.take_append_drop]
  rfl

theorem readLoop_succ (fuel want : Nat) (out : List Byte) :
    State.readLoop k (fuel + 1) want out s =
      if want - min want (s.conn k).rfifo.length = 0 ∨ ((s.readTurn k want).conn k).staged = NONE then
        (out ++ (s.conn k).rfifo.take (min want (s.conn k).rfifo.length), s.readTurn k want)
      else
        State.readLoop k fuel (want - min want (s.conn k).rfifo.length)
          (out ++ (s.conn k).rfifo.take (min want (s.conn k).rfifo.length)) ((s.readTurn k want).refill k) := rfl

/-- The loop reads the next `want` bytes of the stream.  Its turns suffice: after a Refill that leaves a staged buffer RFIFO is full,
so the next turn reads a byte. -/
theorem readLoop_reads {fuel want : Nat} {out : List Byte} (hs : s.sound) (hk : k < s.conns.length)
    (hfuel : want + 1 < fuel ∨ want < fuel ∧ ((s.conn k).staged = NONE ∨ (s.conn k).rfifo ≠ [])) :
    let r := State.readLoop k fuel want out s
    r.1 = out ++ (s.stream k).take want ∧ r.2.stream k = (s.stream k).drop want ∧ Moves s r.2 k := by
  induction fuel generalizing want out s with
  | zero => omega
  | succ fuel ih =>
    have hconn : (s.readTurn k want).conn k =
        { s.conn k with rfifo := (s.conn k).rfifo.drop (min want (s.conn k).rfifo.length) } := s.conn_setConn_same k _ hk
    have hmoves : Moves s (s.readTurn k want) k := moves_setConn hs hk _
    have hsound := readTurn_sound hs k want
    have hlen : k < (s.readTurn k want).conns.length := (s.setConn_conns_length k _).symm ▸ hk
    have hstream := readTurn_stream hk want
    have htaken : ((s.conn k).rfifo.take (min want (s.conn k).rfifo.length)).length = min want (s.conn k).rfifo.length := by
      rw [List.length_take, Nat.min_eq_left (Nat.min_le_right _ _)]
    have hstaged : ((s.readTurn k want).conn k).staged = (s.conn k).staged := by rw [hconn]
    rw [readLoop_succ, hstaged]
    split_ifs with hexit
    · have hrest : want = min want (s.conn k).rfifo.length ∨ (s.readTurn k want).stream k = [] := by
        by_cases hfits : want ≤ (s.conn k).rfifo.length
        · exact .inl (Nat.min_eq_left hfits).symm
        · have hnone := hexit.resolve_left (by omega)
          rw [stream_of_staged_none (hstaged.trans hnone), hconn, Nat.min_eq_right (by omega)]
          exact .inr List.drop_length
      refine ⟨?_, ?_, hmoves⟩
      · rw [hstream, List.take_append, htaken, List.take_of_length_le (htaken.trans_le (Nat.min_le_left _ _))]
        obtain hall | hnil := hrest
        · rw [← hall, Nat.sub_self, List.take_zero, List.append_nil]
        · rw [hnil, List.take_nil, List.append_nil]
      · rw [hstream, List.drop_append, htaken, List.drop_of_length_le (htaken.trans_le (Nat.min_le_left _ _)), List.nil_append]
        obtain hall | hnil := hrest
        · rw [← hall, Nat.sub_self, List.drop_zero]
        · rw [hnil, List.drop_nil]
    · obtain ⟨hmore, hne⟩ := not_or.1 hexit
      have hcap : 1 ≤ (s.readTurn k want).build.fifoCap := by
        obtain ⟨-, -, ⟨hcap, -⟩, -⟩ := (bounded_of_sound hs).valid
        exact hcap
      have hfull := refill_full hsound hlen
      have hready : (((s.readTurn k want).refill k).conn k).staged = NONE ∨ (((s.readTurn k want).refill k).conn k).rfifo ≠ [] :=
        hfull.imp_right fun h => List.ne_nil_of_length_pos (hcap.trans_eq h.symm)
      have hfuel' : want - min want (s.conn k).rfifo.length < fuel := by
        obtain hlt | ⟨hlt, hnone | hnonempty⟩ := hfuel
        · omega
        · exact absurd hnone hne
        · have hpos := List.length_pos_of_ne_nil hnonempty
          omega
      have hlen' : k < ((s.readTurn k want).refill k).conns.length := (refill_moves hsound hlen).edit.conns_length.symm ▸ hlen
      obtain ⟨hout, hleft, hmoves'⟩ := ih (want := want - min want (s.conn k).rfifo.length)
        (out := out ++ (s.conn k).rfifo.take (min want (s.conn k).rfifo.length)) (refill_sound hsound k) hlen' (.inr ⟨hfuel', hready⟩)
      rw [refill_stream hsound hlen] at hout hleft
      refine ⟨?_, ?_, hmoves.trans ((refill_moves hsound hlen).trans hmoves')⟩
      · rw [hout, hstream, List.take_append, htaken, List.take_of_length_le (htaken.trans_le (Nat.min_le_left _ _)), List.append_assoc]
      · rw [hleft, hstream, List.drop_append, htaken, List.drop_of_length_le (htaken.trans_le (Nat.min_le_left _ _)), List.nil_append]

theorem bytes32_be32 (a b c d : Byte) : bytes32 (be32 a b c d) = [a, b, c, d] := by
  simp only [bytes32, be32, BitVec.extractLsb'_append_eq_of_le (show 8 ≤ 24 by decide),
    BitVec.extractLsb'_append_eq_of_le (show 8 ≤ 16 by decide),
    BitVec.extractLsb'_append_eq_of_le (show 8 ≤ 8 by decide), BitVec.extractLsb'_append_eq_right, Nat.reduceSub,
    BitVec.extractLsb'_eq_self]

theorem bytes32_leftAligned {d : List Byte} (hd : d.length ≤ 4) : bytes32 (leftAligned d) = d ++ List.replicate (4 - d.length) 0 := by
  rw [leftAligned, be32At, bytes32_be32]
  match d, hd with
  | [], _ => rfl
  | [_], _ => rfl
  | [_, _], _ => rfl
  | [_, _, _], _ => rfl
  | [_, _, _, _], _ => rfl

end

/-- Settles O51. -/
theorem readTakesFromTheStream : Obligations.ReadTakesFromTheStream := by
  intro s k n hs
  refine ⟨fun hk => if_pos hk, fun hk hn => (check_passed hk).trans (if_pos hn), fun hk => ?_⟩
  intro x moves
  obtain ⟨hshaped, -⟩ := id hs
  have hlen := conn_index_lt hshaped hk
  have hmoves {t : State} (h : Moves s t k.toNat) : moves t :=
    ⟨h.record, h.staged, h.left, h.kept, h.released, h.edit.others, h.edit.data, h.edit.setting, h.edit.csa, h.edit.slf⟩
  refine ⟨fun hn => ?_, refill_sound hs _, s.refill_regs _, refill_stream hs hlen, refill_full hs hlen, hmoves (refill_moves hs hlen)⟩
  obtain ⟨hout, hleft, hread⟩ := readLoop_reads (fuel := n.toNat + 2) (want := n.toNat) (out := []) hs hlen (.inl (by omega))
  rw [List.nil_append] at hout
  have hregs := (readLoop_quiet k.toNat (n.toNat + 2) n.toNat [] s).regs
  have hexec : exec (.connRead k n) s = let r := State.readLoop k.toNat (n.toNat + 2) n.toNat [] s
      r.2.done 0x5A (leftAligned r.1) (natWord r.1.length) := (check_passed hk).trans (if_neg (Nat.not_lt.2 hn))
  generalize State.readLoop k.toNat (n.toNat + 2) n.toNat [] s = r at hout hleft hread hregs hexec
  have hshort : ((s.stream k.toNat).take n.toNat).length ≤ 4 := (List.length_take_le _ _).trans hn
  dsimp only at hexec
  rw [hout] at hexec
  refine (answers_done ⟨?_, bytes32_leftAligned hshort, hleft, hmoves ?_⟩).of_eq hexec
  · exact reports_finish hregs
  · exact ⟨hread.record, hread.staged, hread.left, hread.kept, fun hne => (hread.released hne).finish, hread.edit.finish⟩

end Sys2Proof.Machine

/-! ### What a slot's packet says: ports, numbers and payload (42_header.md R171 to R174, R201, R202) -/

namespace Sys2Proof.Machine

section
variable {s t : State} {b : Handle} {k n : Nat} {fl : Byte} {payload : List Byte} {x : Conn}

theorem be32_bytes32 (v : Word) : be32At (bytes32 v) 0 = v := by
  change v.extractLsb' 24 8 ++ v.extractLsb' 16 8 ++ v.extractLsb' 8 8 ++ v.extractLsb' 0 8 = v
  rw [BitVec.extractLsb'_append_extractLsb'_eq_extractLsb' (by decide), BitVec.extractLsb'_append_extractLsb'_eq_extractLsb' (by decide),
    BitVec.extractLsb'_append_extractLsb'_eq_extractLsb' (by decide)]
  exact BitVec.extractLsb'_eq_self

theorem be16At_eq_ports {i : Nat} {v : Half} {d : List Byte} (h0 : byteAt d i = byteAt (bytes16 v) 0)
    (h1 : byteAt d (i + 1) = byteAt (bytes16 v) 1) : be16 (byteAt d i) (byteAt d (i + 1)) = v := by
  rw [h0, h1]
  exact be16At_bytes16 v

theorem readByte_eq_packet {i : Nat} (hi : i < (s.packet b).length) : s.readByte b i = byteAt (s.packet b) i := by
  rw [State.packet, byteAt_readBytes (by rwa [length_packet] at hi), Nat.zero_add]

/-- What a packet in a buffer is to the commands that read it: its outcome, its ports and its payload. -/
structure Carries (s t : State) (b : Handle) (x : Conn) (p : Byte) (hdr : Nat) (payload : List Byte) : Prop where
  sniff : t.sniff b = .packet .okay p s.build.iph (hdr + payload.length)
  drop : (t.packet b).drop (s.build.iph + hdr) = payload
  srcPort : t.srcPort b s.build.iph = x.lport
  dstPort : t.dstPort b s.build.iph = x.rport

theorem srcPort_of_drop {v : Half} {msg : List Byte} (hd : (t.packet b).drop n = msg) (hlen : n + 2 ≤ (t.packet b).length)
    (h0 : byteAt msg 0 = byteAt (bytes16 v) 0) (h1 : byteAt msg 1 = byteAt (bytes16 v) 1) : t.srcPort b n = v := by
  rw [State.srcPort, readByte_eq_packet (by omega), readByte_eq_packet (by omega)]
  refine be16At_eq_ports ?_ ?_
  · rw [← h0, ← hd, byteAt_drop, Nat.add_zero]
  · rw [← h1, ← hd, byteAt_drop]

theorem dstPort_of_drop {v : Half} {msg : List Byte} (hd : (t.packet b).drop n = msg) (hlen : n + 4 ≤ (t.packet b).length)
    (h2 : byteAt msg 2 = byteAt (bytes16 v) 0) (h3 : byteAt msg 3 = byteAt (bytes16 v) 1) : t.dstPort b n = v := by
  rw [State.dstPort, readByte_eq_packet (by omega), readByte_eq_packet (by omega)]
  refine be16At_eq_ports (i := n + 2) ?_ ?_
  · rw [← h2, ← hd, byteAt_drop]
  · rw [← h3, ← hd, byteAt_drop]

/-- A segment of slot `x` in a buffer. -/
theorem carries_tcp (hd : t.packet b = s.tcpPacket x fl payload) (hmode : t.sniffMode = s.sniffMode)
    (hn : s.build.iph + (20 + payload.length) < 65536) : Carries s t b x 6 20 payload := by
  obtain ⟨c, hdrop⟩ := drop_tcpPacket (s := s) (x := x) (fl := fl) (payload := payload)
  have hlen := length_tcpPacket (s := s) (x := x) (fl := fl) (payload := payload)
  rw [← hd] at hdrop hlen
  refine ⟨(sniff_of_packet hmode hd).trans (sniffBytes_tcpPacket hn), ?_, srcPort_of_drop hdrop (by omega) rfl rfl,
    dstPort_of_drop hdrop (by omega) rfl rfl⟩
  rw [← List.drop_drop, hdrop]
  rfl

/-- A datagram of slot `x` in a buffer. -/
theorem carries_udp (hd : t.packet b = s.udpPacket x payload) (hmode : t.sniffMode = s.sniffMode)
    (hn : s.build.iph + (8 + payload.length) < 65536) : Carries s t b x 17 8 payload := by
  obtain ⟨c, hdrop⟩ := drop_udpPacket (s := s) (x := x) (payload := payload)
  have hlen := length_udpPacket (s := s) (x := x) (payload := payload)
  rw [← hd] at hdrop hlen
  refine ⟨(sniff_of_packet hmode hd).trans (sniffBytes_udpPacket hn), ?_, srcPort_of_drop hdrop (by omega) rfl rfl,
    dstPort_of_drop hdrop (by omega) rfl rfl⟩
  rw [← List.drop_drop, hdrop]
  rfl

/-- The fields that CONN_ACCEPT would read from a segment of slot `x` (R293). -/
theorem segment_tcpPacket (hd : t.packet b = s.tcpPacket x fl payload) :
    t.segment b s.build.iph (20 + payload.length) =
      { seq := x.sndSeq, ackn := if hasFlag fl flAck then x.rcvAck else 0, fl := fl, poff := s.build.iph + 20, plen := payload.length } := by
  obtain ⟨c, hdrop⟩ := drop_tcpPacket (s := s) (x := x) (fl := fl) (payload := payload)
  have hlen := length_tcpPacket (s := s) (x := x) (fl := fl) (payload := payload)
  rw [← hd] at hdrop hlen
  have hread : t.readBytes b s.build.iph 14 =
      bytes16 x.lport ++ bytes16 x.rport ++ bytes32 x.sndSeq ++ bytes32 (if hasFlag fl flAck then x.rcvAck else 0) ++ [0x50, fl] := by
    rw [readBytes_eq_slice (by rw [← length_packet]; omega), slice, hdrop]
    rfl
  generalize hw : (if hasFlag fl flAck then x.rcvAck else 0) = w at hread ⊢
  have hfields : ∀ d : List Byte, d = bytes16 x.lport ++ bytes16 x.rport ++ bytes32 x.sndSeq ++ bytes32 w ++ [0x50, fl] →
      be32At d 4 = x.sndSeq ∧ be32At d 8 = w ∧ byteAt d 13 = fl ∧ (byteAt d 12).toNat / 16 * 4 = 20 := by
    rintro _ rfl
    have hoff : byteAt (bytes16 x.lport ++ bytes16 x.rport ++ bytes32 x.sndSeq ++ bytes32 w ++ [0x50, fl]) 12 = 0x50 := rfl
    exact ⟨be32_bytes32 x.sndSeq, be32_bytes32 w, rfl, by rw [hoff]; rfl⟩
  obtain ⟨hseq, hack, hfl, hoff⟩ := hfields _ hread
  rw [State.segment]
  rw [hseq, hack, hfl, hoff, Nat.add_sub_cancel_left]

end

end Sys2Proof.Machine

/-! ### A spare filled with a packet and queued on OUTBOUND (40_pool.md R114, 44_connection.md R263, R272, R274) -/

namespace Sys2Proof.Machine

section
variable {s t v : State} {b : Handle} {l : List Handle} {k : Nat} {d payload : List Byte} {fl r : Byte} {f : Conn → Conn} {p : Byte}

/-- `v` is `s` with the spare `b` taken and host-held, the packet `d` in it, and REF `r`; the record of slot `k` may have changed. -/
structure Filled (s v : State) (k : Nat) (b : Handle) (d : List Byte) (r : Byte) : Prop where
  setting : SameSetting s v
  regs : v.regs = s.regs
  csa : v.csa = s.csa
  slf : v.slf = s.slf
  others : SameConnsBut s v k
  bufs_length : v.bufs.length = s.bufs.length
  chains : v.chains = s.takeSpare.2.chains
  place : ∀ h, (v.buf h).next = (s.takeSpare.2.buf h).next ∧ (v.buf h).loc = (s.takeSpare.2.buf h).loc
  buf_ne : ∀ h, h ≠ b → v.buf h = s.takeSpare.2.buf h
  ref : (v.buf b).ref = r
  packet : v.packet b = d
  data : SameDataBut s v b 0 d.length

/-- `t` is `s` with the spare `b`, the packet `d` in it and REF `r`, sent on OUTBOUND; the record of slot `k` may have changed. -/
structure Sent (s t : State) (k : Nat) (b : Handle) (l : List Handle) (d : List Byte) (r : Byte) : Prop where
  setting : SameSetting s t
  mode : t.sniffMode = s.sniffMode
  csa : t.csa = s.csa
  slf : t.slf = s.slf
  others : SameConnsBut s t k
  spare : t.chainList SPARE = l
  outbound : t.chainList OUTBOUND = s.chainList OUTBOUND ++ [b]
  chains : SameChainsBut s t [SPARE, OUTBOUND]
  tags : SameTagsBut s t [b]
  ref : (t.buf b).ref = r
  packet : t.packet b = d
  data : SameDataBut s t b 0 d.length

theorem SameConnsBut.trans {u : State} (h : SameConnsBut s t k) (h' : SameConnsBut t u k) : SameConnsBut s u k :=
  fun j hj => (h' j hj).trans (h j hj)

theorem packet_congr (hmem : t.mem = s.mem) (hdraw : t.draw = s.draw) (hlen : (t.buf b).len = (s.buf b).len) :
    t.packet b = s.packet b := by
  rw [State.packet, State.packet, hlen]
  exact List.map_congr_left fun i _ => State.readByte_congr hmem hdraw b _

/-! #### The packet built -/

theorem Filled.setConn (h : Filled s v k b d r) (f : Conn → Conn) : Filled s (v.setConn k f) k b d r :=
  ⟨h.setting, h.regs, h.csa, h.slf, h.others.trans fun _ hj => v.conn_setConn_ne f hj, h.bufs_length, h.chains, h.place, h.buf_ne, h.ref,
    h.packet, h.data⟩

/-- One reference more to the packet built (R272). -/
theorem Filled.addRef (h : Filled s v k b d r) (hb : b.toNat < s.bufs.length) :
    Filled s (v.setBuf b fun x => { x with ref := x.ref + 1 }) k b d (r + 1) := by
  have hsame := v.buf_setBuf_same b (fun x => { x with ref := x.ref + 1 }) (h.bufs_length.symm ▸ hb)
  refine ⟨h.setting, h.regs, h.csa, h.slf, h.others, (v.setBuf_bufs_length b _).trans h.bufs_length, h.chains, fun x => ?_,
    fun x hx => (v.buf_setBuf_ne _ hx).trans (h.buf_ne x hx), ?_, ?_, h.data⟩
  · by_cases hx : x = b
    · rw [hx, hsame]
      exact h.place b
    · rw [v.buf_setBuf_ne _ hx]
      exact h.place x
  · rw [hsame, h.ref]
  · exact (packet_congr (s := v) (t := v.setBuf b fun x => { x with ref := x.ref + 1 }) rfl rfl (by rw [hsame])).trans h.packet

section
variable (hs : s.sound) (hspare : s.chainList SPARE = b :: l)
include hs hspare

/-- A spare has no references (item 5 of R33). -/
theorem spare_hasBuffer : s.build.hasBuffer b ∧ (s.buf b).ref = 0 := by
  have hchain := (chainsSound_of_sound hs).holds SPARE (spare_lt s)
  have hmem : b ∈ s.chainList SPARE := hspare ▸ List.mem_cons_self
  have hb := hchain.hasBuffer b hmem
  obtain ⟨-, -, -, -, hbuffers, -⟩ := hs
  obtain ⟨-, -, href⟩ := hbuffers b hb
  exact ⟨hb, href (hchain.loc_eq hmem)⟩

/-- The spare taken, with its length set, is filled once the data bytes have been written. -/
theorem filled_of_setLength {cs : List Conn} {n : Nat} (hcs : SameConnsBut s { s with conns := cs } k) (hbufs : v.bufs =
      (({ s.takeSpare.2 with conns := cs } : State).setLength b n).bufs)
    (hv : v = { s.takeSpare.2 with conns := cs, bufs := v.bufs, mem := v.mem }) (hpacket : v.packet b = d)
    (hdata : SameDataBut { s.takeSpare.2 with conns := cs } v b 0 d.length) : Filled s v k b d 0 := by
  obtain ⟨hb, href⟩ := spare_hasBuffer hs hspare
  obtain ⟨-, hbuf, -, -⟩ := (chainsSound_of_sound hs).takeSpare_cons hspare
  have hlt : b.toNat < s.takeSpare.2.bufs.length := s.takeSpare_bufs_length.symm ▸ (chainsSound_of_sound hs).lt_bufs_length hb
  have hsame : v.buf b = { s.takeSpare.2.buf b with len := BitVec.ofNat 16 n, chan := 0 } :=
    (State.buf_congr (s := ({ s.takeSpare.2 with conns := cs } : State).setLength b n) hbufs b).trans
      (State.buf_setBuf_same { s.takeSpare.2 with conns := cs } b _ hlt)
  have hne (x : Handle) (hx : x ≠ b) : v.buf x = s.takeSpare.2.buf x :=
    (State.buf_congr (s := ({ s.takeSpare.2 with conns := cs } : State).setLength b n) hbufs x).trans
      (State.buf_setBuf_ne { s.takeSpare.2 with conns := cs } _ hx)
  have hlength : v.bufs.length = s.bufs.length := by
    rw [hbufs]
    exact (State.setBuf_bufs_length _ b _).trans s.takeSpare_bufs_length
  refine ⟨?_, ?_, ?_, ?_, ?_, hlength, ?_, fun x => ?_, hne, ?_, hpacket, fun c o ho hout => ?_⟩
  · rw [hv]; exact ⟨s.takeSpare_build, s.takeSpare_draw, s.takeSpare_input, s.takeSpare_readData⟩
  · rw [hv]; exact s.takeSpare_regs
  · rw [hv]; exact s.takeSpare_csa
  · rw [hv]; exact s.takeSpare_slf
  · rw [hv]; exact hcs
  · rw [hv]
  · by_cases hx : x = b
    · rw [hx, hsame]
      exact ⟨rfl, rfl⟩
    · rw [hne x hx]
      exact ⟨rfl, rfl⟩
  · rw [hsame, hbuf]
    exact href
  · exact (hdata c o ho hout).trans (State.readByte_congr s.takeSpare_mem s.takeSpare_draw c o)

/-- `BuildTCP` in the spare taken. -/
theorem filled_tcp {cs : List Conn} (hcs : SameConnsBut s { s with conns := cs } k)
    (hn : s.build.iph + (20 + payload.length) < 65536) :
    Filled s (({ s.takeSpare.2 with conns := cs } : State).buildTcp b k fl payload) k b
      (s.tcpPacket (({ s with conns := cs } : State).conn k) fl payload) 0 := by
  obtain ⟨hb, -⟩ := spare_hasBuffer hs hspare
  have hlt : b.toNat < s.takeSpare.2.bufs.length := s.takeSpare_bufs_length.symm ▸ (chainsSound_of_sound hs).lt_bufs_length hb
  have hn' : s.takeSpare.2.build.iph + (20 + payload.length) < 65536 := by rwa [s.takeSpare_build]
  have hpacket : s.takeSpare.2.tcpPacket (({ s with conns := cs } : State).conn k) fl payload =
      s.tcpPacket (({ s with conns := cs } : State).conn k) fl payload := by
    simp only [State.tcpPacket, State.ipPacket, State.tcpHeader, s.takeSpare_build, s.takeSpare_regs]
  refine filled_of_setLength hs hspare hcs (State.buildTcp_bufs _ b k fl payload) buildTcp_eq_setPool
    ((buildTcp_packet (s := { s.takeSpare.2 with conns := cs }) hlt hn').trans hpacket) ?_
  have hdata := buildTcp_sameDataBut (s := { s.takeSpare.2 with conns := cs }) (b := b) (k := k) (fl := fl) hn'.le
  rwa [length_tcpPacket, ← s.takeSpare_build]

/-- `BuildUDP` in the spare taken. -/
theorem filled_udp {cs : List Conn} (hcs : SameConnsBut s { s with conns := cs } k)
    (hn : s.build.iph + (8 + payload.length) < 65536) :
    Filled s (({ s.takeSpare.2 with conns := cs } : State).buildUdp b k payload) k b
      (s.udpPacket (({ s with conns := cs } : State).conn k) payload) 0 := by
  obtain ⟨hb, -⟩ := spare_hasBuffer hs hspare
  have hlt : b.toNat < s.takeSpare.2.bufs.length := s.takeSpare_bufs_length.symm ▸ (chainsSound_of_sound hs).lt_bufs_length hb
  have hn' : s.takeSpare.2.build.iph + (8 + payload.length) < 65536 := by rwa [s.takeSpare_build]
  have hpacket : s.takeSpare.2.udpPacket (({ s with conns := cs } : State).conn k) payload =
      s.udpPacket (({ s with conns := cs } : State).conn k) payload := by
    simp only [State.udpPacket, State.ipPacket, s.takeSpare_build, s.takeSpare_regs]
  refine filled_of_setLength hs hspare hcs (State.buildUdp_bufs _ b k payload) buildUdp_eq_setPool
    ((buildUdp_packet (s := { s.takeSpare.2 with conns := cs }) hlt hn').trans hpacket) ?_
  have hdata := buildUdp_sameDataBut (s := { s.takeSpare.2 with conns := cs }) (b := b) (k := k) hn'.le
  rwa [length_udpPacket, ← s.takeSpare_build]

/-! #### The packet sent -/

/-- R110 on OUTBOUND. -/
theorem Filled.send (h : Filled s v k b d r) : Sent s (v.send b) k b l d r := by
  have hs' := chainsSound_of_sound hs
  obtain ⟨hb, -⟩ := spare_hasBuffer hs hspare
  obtain ⟨-, hbuf, hframe, he⟩ := hs'.takeSpare_cons hspare
  obtain ⟨hbuild, hdraw, hinput, hread⟩ := h.setting
  have hbuild' : v.build = s.takeSpare.2.build := hbuild.trans s.takeSpare_build.symm
  have hv : ChainsSound v := (he.chainsSound hs').congr hbuild' (h.bufs_length.trans s.takeSpare_bufs_length.symm) h.chains
    (fun x => (h.place x).1) fun x => (h.place x).2
  have hlist (c : Nat) : v.chainList c = s.takeSpare.2.chainList c :=
    State.chainList_congr_next hbuild' (fun x => (h.place x).1) h.chains c
  have hfree (c : Nat) : (v.buf b).loc ≠ .chain c := by
    obtain ⟨-, hloc⟩ := h.place b
    rw [hloc, hbuf]
    exact Loc.noConfusion
  have hbv : v.build.hasBuffer b := hbuild ▸ hb
  have hout := hv.pushTail_edit (c := OUTBOUND) (by change 2 < _; omega) hbv hfree
  have htag := v.pushTail_buf_same OUTBOUND (hv.lt_bufs_length hbv) (Ne.symm (hv.tail_ne (by change 2 < _; omega) hbv (hfree OUTBOUND)))
  have hso : SPARE ≠ OUTBOUND := by decide
  have hpool := v.pushTail_poolEdit OUTBOUND b
  obtain ⟨⟨hbuild2, hdraw2, hinput2, hread2⟩, hdata2, hcsa2, hslf2, hconns2⟩ := hpool.onlyPool
  refine ⟨⟨hbuild2.trans hbuild, hdraw2.trans hdraw, hinput2.trans hinput, hread2.trans hread⟩, ?mode, hcsa2.trans h.csa, hslf2.trans h.slf,
    fun j hj => (State.conn_congr hconns2 j).trans (h.others j hj), ?_, ?_, fun c hc => ?_, fun x hx => ?_, ?_, ?_, ?_⟩
  case mode =>
    rw [State.sniffMode, State.send, hpool.build, hpool.regs, hbuild, h.regs, State.sniffMode]
  · rw [State.send, hout.chainList_ne hv hso, hlist, he.chainList_same hs']
  · rw [State.send, hout.chainList_same hv, hlist, he.chainList_ne hs' hso.symm]
  · obtain ⟨hcs, hco⟩ : c ≠ SPARE ∧ c ≠ OUTBOUND := by simpa using hc
    rw [State.send, hout.chainList_ne hv hco, hlist, he.chainList_ne hs' hcs]
  · have hxb := mt List.mem_singleton.2 hx
    rw [State.send, hout.tags x hxb, h.buf_ne x hxb, he.tags x hxb]
    exact ⟨rfl, rfl, rfl, rfl⟩
  · rw [State.send, htag]
    exact h.ref
  · refine (packet_congr (v.pushTail_mem OUTBOUND b) (v.pushTail_draw OUTBOUND b) ?_).trans h.packet
    rw [htag]
  · exact fun c o ho hout' => (hdata2 c o).trans (h.data c o ho hout')

end

theorem Sent.setConn (h : Sent s t k b l d r) (f : Conn → Conn) : Sent s (t.setConn k f) k b l d r := by
  have hlist (c : Nat) : (t.setConn k f).chainList c = t.chainList c := State.chainList_congr (s := t) (t := t.setConn k f) rfl rfl rfl c
  exact ⟨h.setting, h.mode, h.csa, h.slf, h.others.trans fun _ hj => t.conn_setConn_ne f hj, (hlist _).trans h.spare, (hlist _).trans h.outbound,
    fun c hc => (hlist c).trans (h.chains c hc), h.tags, h.ref, h.packet, h.data⟩

/-- The record of the slot before it was changed does not count. -/
theorem Sent.of_setConn (h : Sent (s.setConn k f) t k b l d r) : Sent s t k b l d r := by
  have hlist (c : Nat) : (s.setConn k f).chainList c = s.chainList c := State.chainList_congr (s := s) (t := s.setConn k f) rfl rfl rfl c
  exact ⟨h.setting, h.mode, h.csa, h.slf, SameConnsBut.trans (fun _ hj => s.conn_setConn_ne f hj) h.others, h.spare, hlist _ ▸ h.outbound,
    fun c hc => (h.chains c hc).trans (hlist c), h.tags, h.ref, h.packet, h.data⟩

theorem Sent.finish (h : Sent s t k b l d r) {op err : Byte} {r0 r1 : Word} : Sent s (t.finish op err r0 r1) k b l d r :=
  ⟨h.setting, h.mode, h.csa, h.slf, h.others, (t.finish_chainList _).trans h.spare, (t.finish_chainList _).trans h.outbound,
    sameChainsBut_finish h.chains, h.tags, h.ref, h.packet, h.data⟩

end

end Sys2Proof.Machine

/-! ### SendData and CONN_WRITE (44_connection.md R262, R263) -/

namespace Sys2Proof.Machine

section
variable {s t u : State} {b : Handle} {l : List Handle} {k : Nat} {payload : List Byte} {x : Conn}

/-- The header of a data packet of slot `x` after the IP header. -/
def Conn.hdr (x : Conn) : Nat := if x.proto = .tcp then 20 else 8

/-- The data packet that slot `x` sends (R263): a segment with ACK and PSH, or a datagram. -/
def State.dataPacket (s : State) (x : Conn) (payload : List Byte) : List Byte :=
  match x.proto with
  | .tcp => s.tcpPacket x 0x18 payload
  | .udp => s.udpPacket x payload

theorem dataPacket_tcp (hp : x.proto = .tcp) : s.dataPacket x payload = s.tcpPacket x 0x18 payload := by rw [State.dataPacket, hp]

theorem dataPacket_udp (hp : x.proto = .udp) : s.dataPacket x payload = s.udpPacket x payload := by rw [State.dataPacket, hp]

theorem Conn.hdr_tcp (hp : x.proto = .tcp) : x.hdr = 20 := if_pos hp

theorem Conn.hdr_udp (hp : x.proto = .udp) : x.hdr = 8 := if_neg (by rw [hp]; decide)

theorem length_dataPacket : (s.dataPacket x payload).length = s.build.iph + (x.hdr + payload.length) := by
  cases hp : x.proto with
  | tcp => rw [dataPacket_tcp hp, x.hdr_tcp hp, length_tcpPacket]
  | udp => rw [dataPacket_udp hp, x.hdr_udp hp, length_udpPacket]

theorem carries_data (hd : t.packet b = s.dataPacket x payload) (hmode : t.sniffMode = s.sniffMode)
    (hn : s.build.iph + (x.hdr + payload.length) < 65536) : Carries s t b x (if x.proto = .tcp then 6 else 17) x.hdr payload := by
  cases hp : x.proto with
  | tcp =>
    rw [x.hdr_tcp hp] at hn ⊢
    exact carries_tcp (hd.trans (dataPacket_tcp hp)) hmode hn
  | udp =>
    rw [x.hdr_udp hp] at hn ⊢
    exact carries_udp (hd.trans (dataPacket_udp hp)) hmode hn

theorem wrote_data :
    if x.proto = .tcp then s.wroteTcp (s.dataPacket x payload) x 0x18 payload else s.wroteUdp (s.dataPacket x payload) x payload := by
  cases hp : x.proto with
  | tcp => exact dataPacket_tcp hp ▸ wroteTcp_tcpPacket
  | udp => exact dataPacket_udp hp ▸ wroteUdp_udpPacket

theorem dataPacket_congr (hbuild : u.build = s.build) (hregs : u.regs = s.regs) : u.dataPacket x payload = s.dataPacket x payload := by
  simp only [State.dataPacket, State.tcpPacket, State.udpPacket, State.ipPacket, State.tcpHeader, hbuild, hregs]

/-- The payloads that MaxPay allows fit in a packet (R204). -/
theorem data_fits (hs : s.sound) (hp : payload.length + x.hdr ≤ s.build.bufCap - s.build.iph) :
    s.build.iph + (x.hdr + payload.length) < 65536 := by
  obtain ⟨-, ⟨hcap, hcap'⟩, -⟩ := (bounded_of_sound hs).valid
  omega

theorem maxPay_eq : s.maxPay k = s.build.bufCap - s.build.iph - (s.conn k).hdr := by
  unfold State.maxPay
  cases hp : (s.conn k).proto with
  | tcp => rw [Conn.hdr_tcp hp]; rfl
  | udp => rw [Conn.hdr_udp hp]; rfl

/-! #### SendData (R263) -/

/-- The record of a slot after SendData. -/
def Conn.sentData (x : Conn) (n : Nat) : Conn :=
  if x.proto = .tcp then { x with sndSeq := x.sndSeq + BitVec.ofNat 32 n, ackDue := false } else x

theorem Conn.sentData_tcp (hp : x.proto = .tcp) (n : Nat) :
    x.sentData n = { x with sndSeq := x.sndSeq + BitVec.ofNat 32 n, ackDue := false } := if_pos hp

theorem Conn.sentData_udp (hp : x.proto = .udp) (n : Nat) : x.sentData n = x := if_neg (by rw [hp]; decide)

theorem sendData_tcp (hp : (s.conn k).proto = .tcp) : s.sendData k b payload =
    ((s.buildTcp b k 0x18 payload).setConn k fun x =>
      { x with sndSeq := x.sndSeq + BitVec.ofNat 32 payload.length, ackDue := false }).send b := by
  rw [State.sendData, hp]
  rfl

theorem sendData_udp (hp : (s.conn k).proto = .udp) : s.sendData k b payload = (s.buildUdp b k payload).send b := by
  rw [State.sendData, hp]

theorem Proto.eq_tcp_or_udp (p : Proto) : p = .tcp ∨ p = .udp := by
  cases p
  · exact .inr rfl
  · exact .inl rfl

theorem sendData_sent (hs : s.sound) (hspare : s.chainList SPARE = b :: l) {f : Conn → Conn}
    (hk : k < s.conns.length) (hx : f (s.conn k) = x) (hn : s.build.iph + (x.hdr + payload.length) < 65536) :
    Sent s ((s.takeSpare.2.setConn k f).sendData k b payload) k b l (s.dataPacket x payload) 0 ∧
      ((s.takeSpare.2.setConn k f).sendData k b payload).conn k = x.sentData payload.length := by
  have hcs : SameConnsBut s (s.setConn k f) k := fun j hj => s.conn_setConn_ne f hj
  have hconn : (s.setConn k f).conn k = x := (s.conn_setConn_same k f hk).trans hx
  have hk' : k < s.takeSpare.2.conns.length := by rwa [s.takeSpare_conns]
  have hconn' : (s.takeSpare.2.setConn k f).conn k = x := by
    rw [State.conn_setConn_same _ k f hk', State.conn_congr s.takeSpare_conns, hx]
  have hstate : ({ s.takeSpare.2 with conns := (s.setConn k f).conns } : State) = s.takeSpare.2.setConn k f := by
    rw [State.setConn, State.setConn, s.takeSpare_conns]
  obtain hp | hp := x.proto.eq_tcp_or_udp
  · rw [x.hdr_tcp hp] at hn
    have hfilled := filled_tcp hs hspare (cs := (s.setConn k f).conns) (k := k) (fl := 0x18) hcs hn
    have hpacket : s.tcpPacket (({ s with conns := (s.setConn k f).conns } : State).conn k) 0x18 payload = s.dataPacket x payload :=
      (congrArg (s.tcpPacket · 0x18 payload) hconn).trans (dataPacket_tcp hp).symm
    rw [hstate, hpacket] at hfilled
    rw [sendData_tcp (by rw [hconn', hp]), x.sentData_tcp hp]
    refine ⟨(hfilled.setConn _).send hs hspare, ?_⟩
    rw [State.send, State.pushTail_setConn, State.conn_setConn_same, State.conn_congr (State.pushTail_conns _ _ _),
      State.conn_congr (State.buildTcp_conns _ _ _ _ _), hconn']
    rw [State.pushTail_conns, State.buildTcp_conns, State.setConn_conns_length]
    exact hk'
  · rw [x.hdr_udp hp] at hn
    have hfilled := filled_udp hs hspare (cs := (s.setConn k f).conns) (k := k) hcs hn
    have hpacket : s.udpPacket (({ s with conns := (s.setConn k f).conns } : State).conn k) payload = s.dataPacket x payload :=
      (congrArg (s.udpPacket · payload) hconn).trans (dataPacket_udp hp).symm
    rw [hstate, hpacket] at hfilled
    rw [sendData_udp (by rw [hconn', hp]), x.sentData_udp hp]
    refine ⟨hfilled.send hs hspare, ?_⟩
    rw [State.send, State.conn_congr (State.pushTail_conns _ _ _), State.conn_congr (State.buildUdp_conns _ _ _ _), hconn']

end

end Sys2Proof.Machine

/-! ### CONN_WRITE (44_connection.md R262, R263) -/

namespace Sys2Proof.Machine

section
variable {s t u : State} {b : Handle} {l : List Handle} {k : Nat} {payload d : List Byte} {x : Conn}

/-- `t` is `u` with the payload sent as one data packet of slot `k` in the spare `b`; build and registers are those of `s`. -/
def DataSent (s u t : State) (k : Nat) (b : Handle) (l : List Handle) (x : Conn) (payload : List Byte) : Prop :=
  t.sniff b = .packet .okay (if x.proto = .tcp then 6 else 17) s.build.iph (x.hdr + payload.length) ∧
    (if x.proto = .tcp then s.wroteTcp (t.packet b) x 0x18 payload else s.wroteUdp (t.packet b) x payload) ∧
    (t.packet b).drop (s.build.iph + x.hdr) = payload ∧ t.srcPort b s.build.iph = x.lport ∧ t.dstPort b s.build.iph = x.rport ∧
    (x.proto = .tcp →
      t.segment b s.build.iph (20 + payload.length) =
        { seq := x.sndSeq, ackn := x.rcvAck, fl := 0x18, poff := s.build.iph + 20, plen := payload.length }) ∧
    t.chainList SPARE = l ∧ t.chainList OUTBOUND = u.chainList OUTBOUND ++ [b] ∧ SameChainsBut u t [SPARE, OUTBOUND] ∧
    SameTagsBut u t [b] ∧ SameDataBut u t b 0 (s.build.iph + x.hdr + payload.length) ∧ SameConnsBut u t k ∧ SameSetting s t ∧
    t.csa = s.csa ∧ t.slf = s.slf

theorem Sent.dataSent (h : Sent u t k b l (u.dataPacket x payload) 0) (hu : SlotEdit s u k) (hregs : u.regs = s.regs)
    (hn : s.build.iph + (x.hdr + payload.length) < 65536) : DataSent s u t k b l x payload := by
  obtain ⟨hbuild, -⟩ := id hu.setting
  have hmode : u.sniffMode = s.sniffMode := by rw [State.sniffMode, hbuild, hregs, State.sniffMode]
  have hpacket := h.packet.trans (dataPacket_congr hbuild hregs)
  have hcarries := carries_data hpacket (h.mode.trans hmode) hn
  refine ⟨hcarries.sniff, hpacket ▸ wrote_data, hcarries.drop, hcarries.srcPort, hcarries.dstPort, fun hp => ?_, h.spare, h.outbound,
    h.chains, h.tags, ?_, h.others, hu.setting.trans h.setting, h.csa.trans hu.csa, h.slf.trans hu.slf⟩
  · exact segment_tcpPacket (hpacket.trans (dataPacket_tcp hp))
  · have hdata := h.data
    rwa [length_dataPacket, hbuild, ← Nat.add_assoc] at hdata

/-! #### CONN_WRITE -/

/-- How much of the write FIFO is free. -/
def State.room (s : State) (k : Nat) : Nat := s.build.fifoCap - (s.conn k).wfifo.length

/-- CONN_WRITE of bytes that fit in the write FIFO. -/
theorem connWrite_fits (hd : d.length ≤ s.room k) : s.connWrite k d = (s.fillWfifo k d).done 0x5B (natWord d.length) 0 := by
  have hmin : min d.length (s.build.fifoCap - (s.conn k).wfifo.length) = d.length := Nat.min_eq_left hd
  unfold State.connWrite
  dsimp only
  rw [hmin, Nat.sub_self, if_pos rfl, List.take_length]
  rfl

/-- CONN_WRITE of more bytes than fit, without a spare. -/
theorem connWrite_overflows (hd : s.room k < d.length) :
    s.connWrite k d =
      let w := s.fillWfifo k (d.take (s.room k))
      if w.takeSpare.1 = NONE then w.done 0x5B (natWord (s.room k)) 0
      else
        let more := min (d.length - s.room k) (w.maxPay k - (w.conn k).wfifo.length)
        ((w.takeSpare.2.setConn k fun x => { x with wfifo := [] }).sendData k w.takeSpare.1
          ((w.conn k).wfifo ++ (d.drop (s.room k)).take more)).done 0x5B (natWord (s.room k + more)) 0 := by
  have hmin : min d.length (s.build.fifoCap - (s.conn k).wfifo.length) = s.room k := Nat.min_eq_right hd.le
  unfold State.connWrite
  dsimp only
  rw [hmin, if_neg (by omega)]
  rfl

theorem fillWfifo_conn (hk : k < s.conns.length) (e : List Byte) :
    (s.fillWfifo k e).conn k = { s.conn k with wfifo := (s.conn k).wfifo ++ e } := s.conn_setConn_same k _ hk

theorem fillWfifo_chainList (e : List Byte) (c : Nat) : (s.fillWfifo k e).chainList c = s.chainList c :=
  State.chainList_congr (s := s) (t := s.fillWfifo k e) rfl rfl rfl c

theorem fillWfifo_sound (hs : s.sound) {e : List Byte} (he : e.length ≤ s.room k) : (s.fillWfifo k e).sound := by
  obtain ⟨hbounded, hpool⟩ := sound_iff.1 hs
  exact sound_iff.2 ⟨hbounded.fillWfifo he, hpool.setConn_keep⟩

/-- CONN_WRITE with a spare sends the full FIFO and as much of the overflow as the packet holds. -/
theorem connWrite_sends (hs : s.sound) (hk : k < s.conns.length) (hd : s.room k < d.length) (hspare : s.chainList SPARE = b :: l) :
    let x := s.conn k
    let more := min (d.length - s.room k) (s.build.bufCap - s.build.iph - x.hdr - s.build.fifoCap)
    let payload := x.wfifo ++ d.take (s.room k + more)
    1 ≤ more ∧ s.build.iph + (x.hdr + payload.length) < 65536 ∧
      ∃ t, s.connWrite k d = t.done 0x5B (BitVec.ofNat 32 (s.room k + more)) 0 ∧ t.regs = s.regs ∧
        t.conn k = Conn.sentData { x with wfifo := [] } payload.length ∧ Sent s t k b l (s.dataPacket x payload) 0 := by
  intro x more payload
  obtain ⟨-, hw, -⟩ := (bounded_of_sound hs).conn_ok k
  have hcap := (bounded_of_sound hs).maxpayTcp_pos
  have hroom : s.room k = s.build.fifoCap - x.wfifo.length := rfl
  have hhdr : x.hdr ≤ 20 := by unfold Conn.hdr; split <;> omega
  have hmaxpay : s.build.maxpayTcp = s.build.bufCap - s.build.iph - 20 := rfl
  have hmore : more = min (d.length - s.room k) (s.build.bufCap - s.build.iph - x.hdr - s.build.fifoCap) := rfl
  have hplen : payload.length = s.build.fifoCap + more := by
    change (x.wfifo ++ d.take (s.room k + more)).length = _
    rw [List.length_append, List.length_take]
    change x.wfifo.length ≤ _ at hw
    omega
  have hfits : s.build.iph + (x.hdr + payload.length) < 65536 := data_fits hs (by omega)
  have htaken : (d.take (s.room k)).length = s.room k := by rw [List.length_take]; omega
  have hconn := fillWfifo_conn hk (d.take (s.room k))
  have hwsound : (s.fillWfifo k (d.take (s.room k))).sound := fillWfifo_sound hs htaken.le
  have hwspare := (fillWfifo_chainList (s := s) (k := k) (d.take (s.room k)) SPARE).trans hspare
  have hwk : k < (s.fillWfifo k (d.take (s.room k))).conns.length := by rwa [State.fillWfifo, State.setConn_conns_length]
  have hmax : (s.fillWfifo k (d.take (s.room k))).maxPay k = s.build.bufCap - s.build.iph - x.hdr := by
    rw [maxPay_eq, hconn]
    rfl
  have hwfifo : ((s.fillWfifo k (d.take (s.room k))).conn k).wfifo = x.wfifo ++ d.take (s.room k) := by rw [hconn]
  have hfull : ((s.fillWfifo k (d.take (s.room k))).conn k).wfifo.length = s.build.fifoCap := by
    rw [hwfifo, List.length_append, htaken]
    change x.wfifo.length ≤ _ at hw
    omega
  have hpayload : ((s.fillWfifo k (d.take (s.room k))).conn k).wfifo ++ (d.drop (s.room k)).take more = payload := by
    rw [hwfifo, List.append_assoc, ← List.take_add]
  obtain ⟨hfirst, -⟩ := (chainsSound_of_sound hwsound).takeSpare_cons hwspare
  obtain ⟨hb, -⟩ := spare_hasBuffer hs hspare
  have hwrite := connWrite_overflows hd
  dsimp only at hwrite
  rw [hfirst, if_neg ((chainsSound_of_sound hs).ne_none hb), hmax, hfull, ← hmore, hpayload] at hwrite
  obtain ⟨hsent, hsentConn⟩ := sendData_sent (f := fun y => { y with wfifo := [] }) (x := { x with wfifo := [] })
    (payload := payload) hwsound hwspare hwk (by rw [hconn]) hfits
  refine ⟨by omega, hfits, _, hwrite, ?_, hsentConn, hsent.of_setConn⟩
  rw [(sendData_quiet _ k b payload).regs, State.setConn_regs, State.takeSpare_regs]
  rfl

end

/-- Settles O52. -/
theorem writeFillsTheFifoThenSends : Obligations.WriteFillsTheFifoThenSends := by
  intro s k n hs
  refine ⟨fun hk => if_pos hk, fun hk hn => (check_passed hk).trans (if_pos hn), fun hk hn => ?_⟩
  intro x d room takes
  obtain ⟨hshaped, -⟩ := id hs
  have hlen := conn_index_lt hshaped hk
  have hdlen : d.length = n.toNat := by
    rw [List.length_take]
    exact Nat.min_eq_left hn
  have hword : natWord d.length = n.setWidth 32 := by
    rw [hdlen]
    exact BitVec.eq_of_toNat_eq (by simp [natWord])
  have htakes (h : takes) : exec (.connWrite k n) s = s.connWrite k.toNat d := by
    refine (check_passed hk).trans ((if_neg (Nat.not_lt.2 hn)).trans (if_neg ?_))
    obtain ⟨hopen, hbound⟩ := h
    rintro (hclosed | ⟨hudp, hunbound⟩)
    · exact hclosed hopen
    · exact Bool.false_ne_true (hunbound.symm.trans (hbound hudp))
  have hfill (e : List Byte) (r : Word) : Answers ((s.fillWfifo k.toNat e).done 0x5B r 0) fun t =>
      Reports s t 0x5B r 0 ∧ t.conn k.toNat = { x with wfifo := x.wfifo ++ e } ∧ OnlySlot s t k.toNat := answers_setConn hlen
  refine ⟨fun h => ?_, fun h hfits => ?_, fun h hover hnone => ?_, fun h hover b l hspare => ?_⟩
  · refine answers_report.of_eq ((check_passed hk).trans ((if_neg (Nat.not_lt.2 hn)).trans (if_pos ?_)))
    by_contra hno
    obtain ⟨hopen, hbound⟩ := not_or.1 hno
    exact h ⟨not_not.1 hopen, fun hudp => Bool.eq_true_of_not_eq_false fun hf => hbound ⟨hudp, hf⟩⟩
  · have hwrite := connWrite_fits (s := s) (k := k.toNat) (d := d) (hdlen ▸ hfits)
    rw [hword] at hwrite
    exact (hfill d _).of_eq ((htakes h).trans hwrite)
  · have hwrite := (htakes h).trans (connWrite_overflows (s := s) (k := k.toNat) (d := d) (hdlen.symm ▸ hover))
    have hsound := (chainsSound_of_sound hs).setConn k.toNat fun y => { y with wfifo := y.wfifo ++ d.take (s.room k.toNat) }
    have hspare : (s.fillWfifo k.toNat (d.take (s.room k.toNat))).takeSpare = (NONE, s.fillWfifo k.toNat (d.take (s.room k.toNat))) :=
      hsound.takeSpare_nil ((fillWfifo_chainList _ SPARE).trans hnone)
    dsimp only at hwrite
    rw [hspare, if_pos rfl] at hwrite
    exact (hfill _ _).of_eq hwrite
  · obtain ⟨hmore, hn', t, hwrite, hregs, hconn, hsent⟩ := connWrite_sends hs hlen (d := d) (hdlen.symm ▸ hover) hspare
    rw [hdlen] at hmore hn' hwrite hconn hsent
    refine (answers_done ⟨reports_finish hregs, hmore, hconn.trans ?_, ?_⟩).of_eq ((htakes h).trans hwrite)
    · rfl
    · exact hsent.finish.dataSent (PoolEdit.refl s).slotEdit rfl hn'

end Sys2Proof.Machine

/-! ### CONN_UPDATE: the steps of R271 (44_connection.md R270 to R275) -/

namespace Sys2Proof.Machine

section
variable {s t u v : State} {b : Handle} {l : List Handle} {k : Nat} {fl : Byte} {d : List Byte} {r : Byte}

/-! #### What is sent (R263, R272, R274) -/

theorem filled_segment (hs : s.sound) (hspare : s.chainList SPARE = b :: l) :
    Filled s (s.takeSpare.2.buildTcp b k fl []) k b (s.tcpPacket (s.conn k) fl []) 0 := by
  have hconn (j : Nat) : ({ s with conns := s.takeSpare.2.conns } : State).conn j = s.conn j :=
    State.conn_congr (s := s) (t := { s with conns := s.takeSpare.2.conns }) s.takeSpare_conns j
  have hfilled := filled_tcp hs hspare (cs := s.takeSpare.2.conns) (k := k) (fl := fl) (payload := []) (fun j _ => hconn j)
    (tcp_fits (bounded_of_sound hs).valid (Nat.zero_le _))
  rwa [hconn] at hfilled

theorem spare_ne_none (hs : s.sound) (hspare : s.chainList SPARE = b :: l) : s.takeSpare.1 = b ∧ b ≠ NONE := by
  obtain ⟨hb, -⟩ := spare_hasBuffer hs hspare
  obtain ⟨hfirst, -⟩ := (chainsSound_of_sound hs).takeSpare_cons hspare
  exact ⟨hfirst, (chainsSound_of_sound hs).ne_none hb⟩

/-- R272 with a spare: the segment is kept as RETX. -/
theorem handshake_sent (hs : s.sound) (hk : k < s.conns.length) (hspare : s.chainList SPARE = b :: l) :
    Sent s (s.handshake k fl) k b l (s.tcpPacket (s.conn k) fl []) 1 ∧ (s.handshake k fl).conn k = (s.conn k).handshook b := by
  obtain ⟨hfirst, hne⟩ := spare_ne_none hs hspare
  obtain ⟨hb, -⟩ := spare_hasBuffer hs hspare
  rw [State.handshake_eq, hfirst, if_neg hne]
  refine ⟨(((filled_segment hs hspare).addRef ((chainsSound_of_sound hs).lt_bufs_length hb)).send hs hspare).setConn _, ?_⟩
  rw [State.conn_setConn_same]
  · rw [State.send, State.conn_congr (State.pushTail_conns _ _ _), State.conn_congr (State.setBuf_conns _ _ _),
      State.conn_congr (State.buildTcp_conns _ _ _ _ _), State.conn_congr s.takeSpare_conns]
  · rwa [State.send, State.pushTail_conns, State.setBuf_conns, State.buildTcp_conns, s.takeSpare_conns]

/-- R274 with a spare. -/
theorem bareAck_sent (hs : s.sound) (hk : k < s.conns.length) (hspare : s.chainList SPARE = b :: l) :
    Sent s (s.bareAck k) k b l (s.tcpPacket (s.conn k) flAck []) 0 ∧ (s.bareAck k).conn k = { s.conn k with ackDue := false } := by
  obtain ⟨hfirst, hne⟩ := spare_ne_none hs hspare
  unfold State.bareAck
  dsimp only
  rw [hfirst, if_neg hne]
  refine ⟨((filled_segment hs hspare).send hs hspare).setConn _, ?_⟩
  rw [State.conn_setConn_same]
  · rw [State.send, State.conn_congr (State.pushTail_conns _ _ _), State.conn_congr (State.buildTcp_conns _ _ _ _ _),
      State.conn_congr s.takeSpare_conns]
  · rwa [State.send, State.pushTail_conns, State.buildTcp_conns, s.takeSpare_conns]

/-- The whole write FIFO fits in one packet. -/
theorem wfifo_fits (hs : s.sound) (k : Nat) :
    (s.conn k).wfifo.length ≤ s.maxPay k ∧ s.build.iph + ((s.conn k).hdr + (s.conn k).wfifo.length) < 65536 := by
  obtain ⟨-, hw, -⟩ := (bounded_of_sound hs).conn_ok k
  have hcap := (bounded_of_sound hs).maxpayTcp_pos
  have hhdr : (s.conn k).hdr ≤ 20 := by unfold Conn.hdr; split <;> omega
  have hmaxpay : s.build.maxpayTcp = s.build.bufCap - s.build.iph - 20 := rfl
  refine ⟨?_, data_fits hs (by omega)⟩
  rw [maxPay_eq]
  omega

/-- Steps 2d and 3 of R271 with a spare. -/
theorem drainWfifo_sent (hs : s.sound) (hk : k < s.conns.length) (hspare : s.chainList SPARE = b :: l) :
    Sent s (s.drainWfifo k) k b l (s.dataPacket (s.conn k) (s.conn k).wfifo) 0 ∧
      (s.drainWfifo k).conn k = Conn.sentData { s.conn k with wfifo := [] } (s.conn k).wfifo.length := by
  obtain ⟨hfirst, hne⟩ := spare_ne_none hs hspare
  obtain ⟨hle, hfits⟩ := wfifo_fits hs k
  unfold State.drainWfifo
  dsimp only
  rw [hfirst, if_neg hne, Nat.min_eq_left hle, List.take_length]
  exact sendData_sent (x := { s.conn k with wfifo := [] }) hs hspare hk (by rw [List.drop_length]) hfits

theorem takeSpare_fst_none (hs : s.sound) (hspare : s.chainList SPARE = []) : s.takeSpare.1 = NONE := by
  rw [(chainsSound_of_sound hs).takeSpare_nil hspare]

theorem handshake_none (hs : s.sound) (hspare : s.chainList SPARE = []) : s.handshake k fl = s := by
  rw [State.handshake_eq, if_pos (takeSpare_fst_none hs hspare)]

theorem bareAck_none (hs : s.sound) (hspare : s.chainList SPARE = []) : s.bareAck k = s := if_pos (takeSpare_fst_none hs hspare)

theorem drainWfifo_none (hs : s.sound) (hspare : s.chainList SPARE = []) : s.drainWfifo k = s := if_pos (takeSpare_fst_none hs hspare)

/-! #### Which step acts (R271) -/

theorem updateTcp_syn (hst : (s.conn k).state = .synSent) (hdue : (s.conn k).synDue = true) : s.updateTcp k = s.handshake k flSyn :=
  if_pos ⟨hst, hdue⟩

theorem updateTcp_synack (hst : (s.conn k).state = .synRcvd) (hdue : (s.conn k).synackDue = true) :
    s.updateTcp k = s.handshake k (flSyn ||| flAck) := by
  unfold State.updateTcp
  dsimp only
  rw [if_neg (by simp [hst]), if_pos ⟨hst, hdue⟩]

theorem updateTcp_retx (hdue : (s.conn k).retxDue = true)
    (hst : (s.conn k).state = .synSent ∧ (s.conn k).synDue = false ∨ (s.conn k).state = .synRcvd ∧ (s.conn k).synackDue = false) :
    s.updateTcp k = s.retransmit k := by
  unfold State.updateTcp
  dsimp only
  obtain ⟨hst, hflag⟩ | ⟨hst, hflag⟩ := hst
  · rw [if_neg (by simp [hflag]), if_neg (by simp [hst]), if_pos ⟨.inl hst, hdue⟩]
  · rw [if_neg (by simp [hst]), if_neg (by simp [hflag]), if_pos ⟨.inr hst, hdue⟩]

theorem updateTcp_drain (hst : (s.conn k).state = .opened ∨ (s.conn k).state = .closing) (hw : (s.conn k).wfifo ≠ []) :
    s.updateTcp k = s.drainWfifo k := by
  have hne : (s.conn k).state ≠ .synSent ∧ (s.conn k).state ≠ .synRcvd := by obtain h | h := hst <;> simp [h]
  unfold State.updateTcp
  dsimp only
  rw [if_neg (by simp [hne]), if_neg (by simp [hne]), if_neg (by simp [hne]), if_pos ⟨hst, hw⟩]

theorem updateTcp_ack (hdue : (s.conn k).ackDue = true)
    (hst : (s.conn k).state = .synRcvd ∧ (s.conn k).synackDue = false ∧ (s.conn k).retxDue = false ∨
      ((s.conn k).state = .opened ∨ (s.conn k).state = .closing) ∧ (s.conn k).wfifo = []) : s.updateTcp k = s.bareAck k := by
  unfold State.updateTcp
  dsimp only
  obtain ⟨hst, hsynack, hretx⟩ | ⟨hst, hw⟩ := hst
  · rw [if_neg (by simp [hst]), if_neg (by simp [hsynack]), if_neg (by simp [hretx]), if_neg (by simp [hst]), if_pos ⟨hdue, .inl hst⟩]
  · have hne : (s.conn k).state ≠ .synSent ∧ (s.conn k).state ≠ .synRcvd := by obtain h | h := hst <;> simp [h]
    rw [if_neg (by simp [hne]), if_neg (by simp [hne]), if_neg (by simp [hne]), if_neg (by simp [hw]), if_pos ⟨hdue, .inr hst⟩]

/-- Nothing is due. -/
theorem updateTcp_none (hdue : ¬ (((s.conn k).state = .synSent ∧ ((s.conn k).synDue = true ∨ (s.conn k).retxDue = true)) ∨
      ((s.conn k).state = .synRcvd ∧ ((s.conn k).synackDue = true ∨ (s.conn k).retxDue = true ∨ (s.conn k).ackDue = true)) ∨
      (((s.conn k).state = .opened ∨ (s.conn k).state = .closing) ∧ (s.conn k).ackDue = true)))
    (hw : ¬ (((s.conn k).state = .opened ∨ (s.conn k).state = .closing) ∧ (s.conn k).wfifo ≠ [])) : s.updateTcp k = s := by
  unfold State.updateTcp
  dsimp only
  rw [if_neg (by tauto), if_neg (by tauto), if_neg (by tauto), if_neg hw, if_neg (by tauto)]

theorem updateSends_tcp (hp : ((s.refill k).conn k).proto = .tcp) : s.updateSends k = (s.refill k).updateTcp k := by
  rw [State.updateSends, hp]

theorem updateSends_udp (hp : ((s.refill k).conn k).proto = .udp) : s.updateSends k = (s.refill k).updateUdp k := by
  rw [State.updateSends, hp]

/-! #### Step 4 (R275) -/

/-- A drained slot that closes. -/
def Conn.closes (x : Conn) : Conn :=
  if x.state = .closing ∧ x.wfifo = [] then { x with state := .closed, events := x.events ||| evClosed } else x

theorem updateClosing_eq (s : State) (k : Nat) : s.updateClosing k = s ∨ ∃ f : Conn → Conn, s.updateClosing k = s.setConn k f := by
  unfold State.updateClosing
  dsimp only
  split_ifs
  · exact .inr ⟨_, rfl⟩
  · exact .inl rfl

theorem updateClosing_conn (s : State) (k : Nat) : (s.updateClosing k).conn k = (s.conn k).closes := by
  unfold State.updateClosing Conn.closes
  dsimp only
  split_ifs with h
  · obtain ⟨hclosing, -⟩ := h
    exact s.conn_setConn_same k _ (conn_lt_of_state_ne (by rw [hclosing]; decide))
  · rfl

theorem updateClosing_onlySlot (s : State) (k : Nat) {op err : Byte} {r0 r1 : Word} :
    OnlySlot s ((s.updateClosing k).finish op err r0 r1) k := by
  obtain e | ⟨f, e⟩ := updateClosing_eq s k <;> rw [e]
  · exact ⟨⟨rfl, rfl, rfl, rfl⟩, ⟨rfl, rfl⟩, fun _ _ => rfl, rfl, rfl, fun _ _ => rfl⟩
  · exact ⟨⟨rfl, rfl, rfl, rfl⟩, ⟨rfl, rfl⟩, fun _ _ => rfl, rfl, rfl, fun _ hj => s.conn_setConn_ne f hj⟩

theorem Conn.closes_eq {x : Conn} (h : x.state = .closing → x.wfifo = []) :
    x.closes = if x.state = .closing then { x with state := .closed, events := x.events ||| 2 } else x := by
  unfold Conn.closes
  by_cases hc : x.state = .closing
  · rw [if_pos ⟨hc, h hc⟩, if_pos hc]
  · rw [if_neg fun hboth => hc hboth.1, if_neg hc]

theorem updateClosing_same (h : ¬ ((s.conn k).state = .closing ∧ (s.conn k).wfifo = [])) : s.updateClosing k = s := if_neg h

theorem Sent.updateClosing (h : Sent s t k b l d r) : Sent s (t.updateClosing k) k b l d r := by
  obtain e | ⟨f, e⟩ := updateClosing_eq t k <;> rw [e]
  · exact h
  · exact h.setConn f

/-! #### The command -/

theorem exec_update (hs : s.sound) {k : Byte} (hk : s.build.hasSlot k) : exec (.connUpdate k) s = (s.updateSlot k.toNat).done 0x57 0 0 := by
  have hne : k ≠ 0xFF := by
    rintro rfl
    obtain ⟨-, -, -, -, -, hle⟩ := (bounded_of_sound hs).valid
    have hlt : 255 < s.build.nconn := hk
    omega
  exact (if_neg hne).trans (check_passed hk)

/-- CONN_UPDATE of a slot, from what steps 1 to 3 leave. -/
theorem answers_update (hs : s.sound) {k : Byte} (hk : s.build.hasSlot k) (hv : s.updateSends k.toNat = v) {Q : State → Prop}
    (hQ : Q ((v.updateClosing k.toNat).finish 0x57 0 0 0)) :
    Answers (exec (.connUpdate k) s) fun t => Reports s t 0x57 0 0 ∧ Q t := by
  refine (answers_done ⟨reports_finish (updateSlot_keeps s k.toNat).regs, ?_⟩).of_eq (exec_update hs hk)
  rw [State.updateSlot_eq, hv]
  exact hQ

end

end Sys2Proof.Machine

/-! ### CONN_UPDATE: segments due, and the write FIFO (44_connection.md R271, R272, R274, R275) -/

namespace Sys2Proof.Machine

section
variable {s t u : State} {b : Handle} {l : List Handle} {k : Nat} {fl : Byte} {d payload : List Byte} {r : Byte} {x : Conn}

/-- What a slot's record is after Refill, as far as the later steps of R271 see it. -/
theorem refill_record (hs : s.sound) (hk : k < s.conns.length) :
    ∃ r st so, (s.refill k).conn k = { s.conn k with rfifo := r, staged := st, soff := so } := by
  obtain ⟨r, so, h⟩ := (refill_moves hs hk).record
  exact ⟨r, _, so, h⟩

/-- What the steps of R271 after the first rest on: `u` is `s` after Refill of slot `k`. -/
structure Refilled (s u : State) (k : Nat) : Prop where
  sound : u.sound
  edit : SlotEdit s u k
  regs : u.regs = s.regs
  lt : k < u.conns.length
  record : ∃ r st so, u.conn k = { s.conn k with rfifo := r, staged := st, soff := so }

theorem refilled (hs : s.sound) (hk : k < s.conns.length) : Refilled s (s.refill k) k :=
  have hedit := (refill_moves hs hk).edit
  ⟨refill_sound hs k, hedit, s.refill_regs k, hedit.conns_length.symm ▸ hk, refill_record hs hk⟩

/-- `t` is `u` with a segment of slot `k` without payload sent in the spare `b`; build and registers are those of `s`. -/
def SegmentSent (s u t : State) (k : Nat) (b : Handle) (l : List Handle) (x : Conn) (fl : Byte) : Prop :=
  t.chainList SPARE = l ∧ t.chainList OUTBOUND = u.chainList OUTBOUND ++ [b] ∧ SameChainsBut u t [SPARE, OUTBOUND] ∧
    SameTagsBut u t [b] ∧ t.sniff b = .packet .okay 6 s.build.iph 20 ∧ s.wroteTcp (t.packet b) x fl [] ∧
    t.srcPort b s.build.iph = x.lport ∧ t.dstPort b s.build.iph = x.rport ∧
    t.segment b s.build.iph 20 =
      { seq := x.sndSeq, ackn := if fl = 0x02 then 0 else x.rcvAck, fl := fl, poff := s.build.iph + 20, plen := 0 } ∧
    SameDataBut u t b 0 (s.build.iph + 20) ∧ SameConnsBut u t k ∧ SameSetting s t ∧ t.csa = s.csa ∧ t.slf = s.slf

theorem tcpPacket_congr (hbuild : u.build = s.build) (hregs : u.regs = s.regs) : u.tcpPacket x fl payload = s.tcpPacket x fl payload := by
  simp only [State.tcpPacket, State.ipPacket, State.tcpHeader, hbuild, hregs]

theorem Sent.segmentSent (h : Sent u t k b l (u.tcpPacket x fl []) r) (hs : s.sound) (hu : SlotEdit s u k) (hregs : u.regs = s.regs)
    (hfl : (hasFlag fl flAck = true) ↔ fl ≠ 0x02) : SegmentSent s u t k b l x fl := by
  obtain ⟨hbuild, -⟩ := id hu.setting
  have hmode : u.sniffMode = s.sniffMode := by rw [State.sniffMode, hbuild, hregs, State.sniffMode]
  have hpacket := h.packet.trans (tcpPacket_congr hbuild hregs)
  have hn : s.build.iph + (20 + ([] : List Byte).length) < 65536 := tcp_fits (bounded_of_sound hs).valid (Nat.zero_le _)
  have hcarries := carries_tcp hpacket (h.mode.trans hmode) hn
  refine ⟨h.spare, h.outbound, h.chains, h.tags, hcarries.sniff, hpacket ▸ wroteTcp_tcpPacket, hcarries.srcPort, hcarries.dstPort,
    (segment_tcpPacket hpacket).trans ?_, ?_, h.others, hu.setting.trans h.setting, h.csa.trans hu.csa, h.slf.trans hu.slf⟩
  · by_cases h2 : fl = 0x02
    · rw [if_pos h2, if_neg (mt hfl.1 (not_not_intro h2))]
      rfl
    · rw [if_neg h2, if_pos (hfl.2 h2)]
      rfl
  · have hdata := h.data
    rwa [length_tcpPacket, hbuild] at hdata

end

/-- Settles O53. -/
theorem updateSendsTheDueSegment : Obligations.UpdateSendsTheDueSegment := by
  intro s k hs hk hproto x u syn ack closes sent
  obtain ⟨hshaped, -⟩ := id hs
  have hlen := conn_index_lt hshaped hk
  obtain ⟨hu, hedit, hregs, hulen, rf, st, so, hy⟩ : Refilled s u k.toNat := refilled hs hlen
  rw [show s.conn k.toNat = x from rfl] at hy
  have hsends : s.updateSends k.toNat = u.updateTcp k.toNat :=
    updateSends_tcp (show (u.conn k.toNat).proto = .tcp by rw [hy]; exact hproto)
  have hpacket (fl : Byte) : u.tcpPacket (u.conn k.toNat) fl [] = u.tcpPacket x fl [] := by rw [hy]; rfl
  have hcloses (y : Conn) (hstate : y.state = x.state) (hev : y.events = x.events) (hempty : x.state = .closing → y.wfifo = []) :
      y.closes = closes y := by
    rw [Conn.closes_eq (hstate ▸ hempty), hstate, hev]
  have hsend {v : State} {b : Handle} {l : List Handle} {fl r : Byte} (hv : u.updateTcp k.toNat = v)
      (hsent : Sent u v k.toNat b l (u.tcpPacket (u.conn k.toNat) fl []) r) (hfl : (hasFlag fl flAck = true) ↔ fl ≠ 0x02) :
      Answers (exec (.connUpdate k) s) fun t => sent t b l fl ∧ (t.buf b).ref = r ∧ t.conn k.toNat = (v.conn k.toNat).closes := by
    rw [hpacket] at hsent
    refine Answers.imp (answers_update (Q := fun t => SegmentSent s u t k.toNat b l x fl ∧ (t.buf b).ref = r ∧
      t.conn k.toNat = (v.conn k.toNat).closes) hs hk (hsends.trans hv) ?_) fun t ht => ?_
    · exact ⟨hsent.updateClosing.finish.segmentSent hs hedit hregs hfl, hsent.updateClosing.finish.ref, updateClosing_conn v _⟩
    · obtain ⟨hreports, hsegment, href, hrecord⟩ := ht
      exact ⟨⟨hreports, hsegment⟩, href, hrecord⟩
  have hsyn (h : syn) : u.updateTcp k.toNat = u.handshake k.toNat (if x.state = .synSent then 0x02 else 0x12) := by
    obtain ⟨hst, hdue⟩ | ⟨hst, hdue⟩ := h
    · rw [if_pos hst]
      exact updateTcp_syn (by rw [hy]; exact hst) (by rw [hy]; exact hdue)
    · rw [if_neg (by rw [hst]; decide)]
      exact updateTcp_synack (by rw [hy]; exact hst) (by rw [hy]; exact hdue)
  have hack (h : ack) : u.updateTcp k.toNat = u.bareAck k.toNat := by
    obtain ⟨hdue, hst⟩ := h
    exact updateTcp_ack (by rw [hy]; exact hdue) (by rw [hy]; exact hst)
  have hempty (h : syn ∨ ack) (hc : x.state = .closing) : x.wfifo = [] := by
    obtain (⟨hst, -⟩ | ⟨hst, -⟩) | ⟨-, ⟨hst, -⟩ | ⟨-, hw⟩⟩ := h
    · exact ConnState.noConfusion (hst.symm.trans hc)
    · exact ConnState.noConfusion (hst.symm.trans hc)
    · exact ConnState.noConfusion (hst.symm.trans hc)
    · exact hw
  refine ⟨fun h hnone => ?_, fun b l hspare => ⟨fun h => ?_, fun h => ?_⟩⟩
  · have hidle : u.updateTcp k.toNat = u := by
      obtain h | h := h
      · rw [hsyn h, handshake_none hu hnone]
      · rw [hack h, bareAck_none hu hnone]
    refine answers_update hs hk (hsends.trans hidle) ⟨?_, updateClosing_onlySlot u _⟩
    refine (updateClosing_conn u _).trans (hcloses _ ?_ ?_ ?_)
    · rw [hy]
    · rw [hy]
    · rw [hy]; exact hempty h
  · obtain ⟨hsent, hconn⟩ := handshake_sent (fl := if x.state = .synSent then 0x02 else 0x12) hu hulen hspare
    have hnot : ¬ x.state = .closing := by obtain ⟨hst, -⟩ | ⟨hst, -⟩ := h <;> rw [hst] <;> decide
    have hrecord : ((u.conn k.toNat).handshook b).closes = (u.conn k.toNat).handshook b := by
      rw [hcloses _ (by rw [hy]; rfl) (by rw [hy]; rfl) fun hc => absurd hc hnot]
      exact if_neg hnot
    have hfl : (hasFlag (if x.state = .synSent then 0x02 else 0x12) flAck = true) ↔
        (if x.state = .synSent then (0x02 : Byte) else 0x12) ≠ 0x02 := by
      split_ifs <;> decide
    have hanswer := hsend (hsyn h) hsent hfl
    rwa [hconn, hrecord] at hanswer
  · obtain ⟨hsent, hconn⟩ := bareAck_sent hu hulen hspare
    have hanswer := hsend (hack h) hsent (by decide)
    rwa [hconn, hcloses _ (by rw [hy]) (by rw [hy]) (by rw [hy]; exact hempty (.inr h))] at hanswer

end Sys2Proof.Machine

/-! ### CONN_UPDATE: the write FIFO sent, and a drained slot closed (44_connection.md R263, R271, R275) -/

namespace Sys2Proof.Machine

section
variable {s : State} {k : Nat}

theorem updateUdp_drain (hst : (s.conn k).state = .opened ∨ (s.conn k).state = .closing) (hw : (s.conn k).wfifo ≠ [])
    (hbound : (s.conn k).rbound = true) : s.updateUdp k = s.drainWfifo k := if_pos ⟨hst, hw, hbound⟩

/-- The record of a slot that has sent all it had to send, after R275. -/
theorem sentData_closes {x y : Conn} {n : Nat} (hproto : y.proto = x.proto) (hstate : y.state = x.state) (hevents : y.events = x.events)
    (hseq : y.sndSeq = x.sndSeq) : (Conn.sentData { y with wfifo := [] } n).closes =
      let sent := if x.proto = .tcp then { y with wfifo := [], sndSeq := x.sndSeq + BitVec.ofNat 32 n, ackDue := false }
        else { y with wfifo := [] }
      if x.state = .closing then { sent with state := .closed, events := x.events ||| 2 } else sent := by
  obtain hp | hp := y.proto.eq_tcp_or_udp
  · rw [Conn.sentData_tcp (x := { y with wfifo := [] }) hp, ← hproto, ← hstate, ← hevents, ← hseq, hp]
    exact Conn.closes_eq fun _ => rfl
  · rw [Conn.sentData_udp (x := { y with wfifo := [] }) hp, ← hproto, ← hstate, ← hevents, hp]
    exact Conn.closes_eq fun _ => rfl

theorem updateUdp_none (h : ¬ (((s.conn k).state = .opened ∨ (s.conn k).state = .closing) ∧ (s.conn k).wfifo ≠ [] ∧
    (s.conn k).rbound = true)) : s.updateUdp k = s := if_neg h

end

/-- Settles O54. -/
theorem updateDrainsTheFifoAndCloses : Obligations.UpdateDrainsTheFifoAndCloses := by
  intro s k hs hk x u y hdr sends due
  obtain ⟨hshaped, -⟩ := id hs
  have hlen := conn_index_lt hshaped hk
  obtain ⟨hu, hedit, hregs, hulen, rf, st, so, hy⟩ : Refilled s u k.toNat := refilled hs hlen
  have hy : y = { x with rfifo := rf, staged := st, soff := so } := hy
  have hproto : y.proto = x.proto := by rw [hy]
  have hstate : y.state = x.state := by rw [hy]
  have hwfifo : y.wfifo = x.wfifo := by rw [hy]
  have hevents : y.events = x.events := by rw [hy]
  have hbound : y.rbound = x.rbound := by rw [hy]
  have htcp (hp : x.proto = .tcp) : s.updateSends k.toNat = u.updateTcp k.toNat := updateSends_tcp (hproto.trans hp)
  have hudp (hp : x.proto = .udp) : s.updateSends k.toNat = u.updateUdp k.toNat := updateSends_udp (hproto.trans hp)
  clear_value u
  have hdrains (h : sends) : s.updateSends k.toNat = u.drainWfifo k.toNat := by
    obtain ⟨hst, hw, hb⟩ := h
    rw [← hstate] at hst
    rw [← hwfifo] at hw
    obtain hp | hp := x.proto.eq_tcp_or_udp
    · exact (htcp hp).trans (updateTcp_drain hst hw)
    · exact (hudp hp).trans (updateUdp_drain hst hw (hbound.trans (hb hp)))
  have hidles {Q : State → Prop} (hv : s.updateSends k.toNat = u) (hQ : Q ((u.updateClosing k.toNat).finish 0x57 0 0 0)) :
      Answers (exec (.connUpdate k) s) fun t => Reports s t 0x57 0 0 ∧ Q t := answers_update hs hk hv hQ
  have hstays (h : ¬ (x.state = .closing ∧ x.wfifo = [])) : OnlyRegs u ((u.updateClosing k.toNat).finish 0x57 0 0 0) := by
    rw [updateClosing_same (fun hboth => h ⟨hstate ▸ hboth.1, hwfifo ▸ hboth.2⟩)]
    exact onlyRegs_finish
  refine ⟨fun h b l hspare => ?_, fun h hnone => ?_, fun hst hw hack => ?_, fun hdue hsend hdrained => ?_⟩
  · obtain ⟨hsent, hconn⟩ := drainWfifo_sent hu hulen hspare
    have hpacket : u.dataPacket (u.conn k.toNat) (u.conn k.toNat).wfifo = u.dataPacket x x.wfifo := by
      rw [show u.conn k.toNat = _ from hy]
      rfl
    have hfits : s.build.iph + (x.hdr + x.wfifo.length) < 65536 := by
      obtain ⟨-, hfits⟩ := wfifo_fits hs k.toNat
      exact hfits
    rw [hpacket] at hsent
    have hdrain := hdrains h
    generalize u.drainWfifo k.toNat = v at hsent hconn hdrain
    have hanswer := answers_update (Q := fun t => t.conn k.toNat = (v.conn k.toNat).closes ∧ DataSent s u t k.toNat b l x x.wfifo) hs hk
      hdrain ⟨updateClosing_conn v _, hsent.updateClosing.finish.dataSent hedit hregs hfits⟩
    have hrecord := sentData_closes (y := y) (n := x.wfifo.length) hproto hstate hevents (by rw [hy])
    rw [hconn, show (u.conn k.toNat).wfifo = x.wfifo from hwfifo, show u.conn k.toNat = y from rfl, hrecord] at hanswer
    refine hanswer.imp fun t ht => ?_
    obtain ⟨hreports, hrecord, hdata⟩ := ht
    exact ⟨hreports, hrecord, hdata⟩
  · refine hidles ((hdrains h).trans (drainWfifo_none hu hnone)) (hstays fun hboth => ?_)
    obtain ⟨-, hw, -⟩ := h
    exact hw hboth.2
  · have hnot : ¬ (x.state = .synSent ∨ x.state = .synRcvd) := by rw [hst]; decide
    have hnone : s.updateSends k.toNat = u := by
      obtain hp | hp := x.proto.eq_tcp_or_udp
      · have hflag : x.ackDue = false := hack.resolve_left (by rw [hp]; decide)
        refine (htcp hp).trans (updateTcp_none ?_ ?_)
        · rw [show u.conn k.toNat = _ from hy]
          simp [hst, hflag]
        · exact fun ⟨_, hne⟩ => hne (hwfifo.trans hw)
      · exact (hudp hp).trans (updateUdp_none fun ⟨_, hne, _⟩ => hne (hwfifo.trans hw))
    refine hidles hnone ⟨(updateClosing_conn u _).trans ?_, updateClosing_onlySlot u _⟩
    rw [← hevents]
    exact if_pos ⟨hstate.trans hst, hwfifo.trans hw⟩
  · refine hidles ?_ (hstays hdrained)
    obtain hp | hp := x.proto.eq_tcp_or_udp
    · refine (htcp hp).trans (updateTcp_none (fun h => hdue ⟨hp, ?_⟩) fun h => hsend ?_)
      · rw [show u.conn k.toNat = _ from hy] at h
        exact h
      · exact ⟨hstate ▸ h.1, hwfifo ▸ h.2, fun hudp => Proto.noConfusion (hp.symm.trans hudp)⟩
    · refine (hudp hp).trans (updateUdp_none fun h => hsend ?_)
      obtain ⟨hst, hw, hb⟩ := h
      exact ⟨hstate ▸ hst, hwfifo ▸ hw, fun _ => hbound ▸ hb⟩

end Sys2Proof.Machine

/-! ### CONN_UPDATE: retransmission, and every slot (44_connection.md R270, R271, R273) -/

namespace Sys2Proof.Machine

section
variable {s t : State} {b : Handle} {k : Nat}

theorem updateAll_eq_foldl (s : State) (ks : List Nat) :
    s.updateAll ks = ks.foldl (fun u j => if (u.conn j).reg then u.updateSlot j else u) s := by
  induction ks generalizing s with
  | nil => rfl
  | cons j ks ih => exact ih _

/-! #### Retransmit (R273) -/

theorem retransmit_none (h : (s.conn k).retx = NONE) : s.retransmit k = s.setConn k fun x => { x with retxDue := false } := if_pos h

theorem retransmit_elsewhere (hne : (s.conn k).retx ≠ NONE) (hloc : (s.buf (s.conn k).retx).loc ≠ .off) : s.retransmit k = s := by
  unfold State.retransmit
  dsimp only
  rw [if_neg hne, if_neg hloc]

theorem retransmit_sends (hne : (s.conn k).retx ≠ NONE) (hloc : (s.buf (s.conn k).retx).loc = .off) :
    s.retransmit k = (s.send (s.conn k).retx).setConn k fun x => { x with retxCnt := x.retxCnt + 1, retxDue := false } := by
  unfold State.retransmit
  dsimp only
  rw [if_neg hne, if_pos hloc]

/-- `t` is `s` with the host-held buffer `b` sent on OUTBOUND, its packet and references as they were. -/
structure Resent (s t : State) (b : Handle) : Prop where
  outbound : t.chainList OUTBOUND = s.chainList OUTBOUND ++ [b]
  chains : SameChainsBut s t [OUTBOUND]
  loc : (t.buf b).loc = .chain OUTBOUND
  len : (t.buf b).len = (s.buf b).len
  ref : (t.buf b).ref = (s.buf b).ref
  tags : SameTagsBut s t [b]

theorem resent_send (hs : ChainsSound s) (hb : s.build.hasBuffer b) (hheld : s.hostHeld b) : Resent s (s.send b) b := by
  have hc : OUTBOUND < 3 + s.build.nchan := by change 2 < _; omega
  have hfree := hostHeld_free hheld
  have he := hs.pushTail_edit hc hb hfree
  have hsame := s.pushTail_buf_same OUTBOUND (hs.lt_bufs_length hb) (Ne.symm (hs.tail_ne hc hb (hfree OUTBOUND)))
  refine ⟨he.chainList_same hs, he.sameChainsBut hs, ?_, ?_, ?_, he.sameTagsBut⟩ <;> rw [State.send, hsame]

theorem Resent.congr (h : Resent s t b) {u : State} (hbuild : u.build = t.build) (hbufs : u.bufs = t.bufs) (hchains : u.chains = t.chains) :
    Resent s u b := by
  have hlist := State.chainList_congr hbuild hbufs hchains
  have hbuf := State.buf_congr hbufs
  exact ⟨(hlist _).trans h.outbound, fun c hc => (hlist c).trans (h.chains c hc), hbuf b ▸ h.loc, hbuf b ▸ h.len, hbuf b ▸ h.ref,
    fun x hx => hbuf x ▸ h.tags x hx⟩

end

/-- Settles O55. -/
theorem updateRetransmitsAndServesAll : Obligations.UpdateRetransmitsAndServesAll := by
  intro s k hs
  refine ⟨fun hk hne => (if_neg hne).trans (if_pos hk), fun hk hproto => ?_, ?_⟩
  · intro x u due
    obtain ⟨hshaped, -⟩ := id hs
    have hlen := conn_index_lt hshaped hk
    obtain ⟨hu, hedit, hregs, hulen, rf, st, so, hy⟩ : Refilled s u k.toNat := refilled hs hlen
    have hy : u.conn k.toNat = { x with rfifo := rf, staged := st, soff := so } := hy
    have hretx : (u.conn k.toNat).retx = x.retx := by rw [hy]
    have hstate : (u.conn k.toNat).state = x.state := by rw [hy]
    have hcnt : (u.conn k.toNat).retxCnt = x.retxCnt := by rw [hy]
    have hsends : s.updateSends k.toNat = u.updateTcp k.toNat := updateSends_tcp (show (u.conn k.toNat).proto = _ by rw [hy]; exact hproto)
    clear_value u
    have hopen (h : due) : x.state ≠ .closing := by
      obtain ⟨-, ⟨hst, -⟩ | ⟨hst, -⟩⟩ := h <;> rw [hst] <;> decide
    have hupdate (h : due) {v : State} (hv : u.retransmit k.toNat = v) (hstate' : (v.conn k.toNat).state = x.state) {Q : State → Prop}
        (hQ : Q (v.finish 0x57 0 0 0)) : Answers (exec (.connUpdate k) s) fun t => Reports s t 0x57 0 0 ∧ Q t := by
      have hstays : v.updateClosing k.toNat = v := updateClosing_same fun hboth => hopen h (hstate'.symm.trans hboth.1)
      obtain ⟨hdue, hst⟩ := id h
      have htcp : u.updateTcp k.toNat = u.retransmit k.toNat := updateTcp_retx (by rw [hy]; exact hdue) (by rw [hy]; exact hst)
      exact answers_update hs hk (hsends.trans (htcp.trans hv)) (hstays.symm ▸ hQ)
    refine ⟨fun h hnone => ?_, fun h hne hloc => ?_, fun h hne hloc => ?_⟩
    · refine hupdate h (retransmit_none (hretx.trans hnone)) ?_ ⟨u.conn_setConn_same _ _ hulen, ?_⟩
      · rw [u.conn_setConn_same _ _ hulen]
        exact hstate
      · exact ⟨⟨rfl, rfl, rfl, rfl⟩, ⟨rfl, rfl⟩, fun _ _ => rfl, rfl, rfl, fun _ hj => u.conn_setConn_ne _ hj⟩
    · exact hupdate h (retransmit_elsewhere (hretx.symm ▸ hne) (hretx.symm ▸ hloc)) hstate onlyRegs_finish
    · have hsent := retransmit_sends (s := u) (k := k.toNat) (hretx.symm ▸ hne) (hretx.symm ▸ hloc)
      have hb : u.build.hasBuffer x.retx := hretx ▸ retx_hasBuffer hu hulen (hretx.symm ▸ hne)
      have hresent := resent_send (chainsSound_of_sound hu) hb hloc
      have hpool : PoolEdit u (u.send x.retx) := u.pushTail_poolEdit OUTBOUND x.retx
      rw [hretx] at hsent
      have hconn := hpool.conn_setConn_same hulen (fun y => { y with retxCnt := y.retxCnt + 1, retxDue := false })
      have hslot : SlotEdit u ((u.send x.retx).setConn k.toNat fun y => { y with retxCnt := y.retxCnt + 1, retxDue := false }) k.toNat :=
        hpool.slotEdit.setConn _
      have hresent' := hresent.congr (u := (u.send x.retx).setConn k.toNat fun y => { y with retxCnt := y.retxCnt + 1, retxDue := false })
        rfl rfl rfl
      generalize (u.send x.retx).setConn k.toNat (fun y => { y with retxCnt := y.retxCnt + 1, retxDue := false }) = v
        at hsent hconn hslot hresent'
      have hall := hedit.trans hslot
      refine hupdate h hsent (by rw [hconn]; exact hstate) ⟨?_, ?_, ?_, hresent'.loc, hresent'.len, hresent'.ref, hresent'.tags,
        hslot.others, hall.data, hall.setting, hall.csa, hall.slf⟩
      · exact hconn.trans (by rw [hcnt])
      · exact (v.finish_chainList _).trans hresent'.outbound
      · exact sameChainsBut_finish hresent'.chains
  · have hexec : exec (.connUpdate 0xFF) s = (s.updateAll (List.range s.build.nconn)).done 0x57 0 0 :=
      show execConnUpdate 0xFF s = _ from if_pos rfl
    have hkeeps := updateAll_keeps s (List.range s.build.nconn)
    rw [updateAll_eq_foldl] at hexec hkeeps
    exact (answers_done ⟨reports_finish hkeeps.regs, rfl, rfl, fun _ _ => rfl, rfl, hkeeps.setting, hkeeps.csa, hkeeps.slf⟩).of_eq hexec

end Sys2Proof.Machine
